-- ==== Sys2Proof/Word.lean ====
section
/-! DEFINITION. The word types of the FR-309: link bytes, fault codes and part time. -/

namespace Sys2Proof

/-- One byte of a control link or cell link frame (12_formats_and_pins, R176). -/
abbrev Byte := BitVec 8

/-- A fault code or cause code, 16 bits (03, section 3.1). -/
abbrev Code := BitVec 16

/-- Part time: microseconds, wrapping after 2^32 - 1 (00_scope, "Time"). -/
abbrev PartTime := BitVec 32

end Sys2Proof
end

