-- ==== Sys2Proof/Syntax.lean ====
section
/-! DEFINITION. The commands of the FR-309, one constructor per row of spec/opcode_table.json. -/

namespace Sys2Proof

/-- A cell position. Slot order A1 to A9, B1 to B9, C1 to C9 is the order of the numbers 0 to 26
(01, section 1.1). -/
abbrev Slot := Fin 27

/-- An external trip line, EXT0 to EXT3 (03, section 3.2). -/
abbrev ExtLine := Fin 4

/-- The commands. A request's command stands for a valid frame of that kind, with its tag and its
payload bytes, that is complete on the control link (log entry 2). Sampled levels and received
bytes are operands. -/
inductive Instr where
  /-- DEVICE_RESET (R128, R179): the supply in millivolts and the level of RESET_N -/
  | deviceReset (millivolts : Nat) (resetN : Bool)
  /-- RESET_END (R179, R147): the supply, RESET_N and the two rate straps -/
  | resetEnd (millivolts : Nat) (resetN strap1 strap0 : Bool)
  /-- FRAMING_ERROR (R147) -/
  | framingError
  /-- FRAME_LENGTH_REJECT (R148): the length byte taken -/
  | frameLengthReject (length : Byte)
  /-- INTERBYTE_GAP_TIMEOUT (R148) -/
  | interbyteGapTimeout
  /-- FRAME_COMPLETE (R151): the last check byte taken -/
  | frameComplete (lastCheck : Byte)
  /-- TRANSMIT_BEGIN (R154) -/
  | transmitBegin
  /-- TRANSMIT_COMPLETE (R154) -/
  | transmitComplete
  /-- UNKNOWN_KIND_REQUEST (R152): a kind no block serves -/
  | unknownKindRequest (kind tag : Byte) (payload : List Byte)
  /-- CONFIGURE (R170) -/
  | configure (tag : Byte) (payload : List Byte)
  /-- READ_CONFIG (R175) -/
  | readConfig (tag : Byte) (payload : List Byte)
  /-- START (R133) -/
  | start (tag : Byte) (payload : List Byte)
  /-- STOP (R135) -/
  | stop (tag : Byte) (payload : List Byte)
  /-- CLEAR_HALT (R144) -/
  | clearHalt (tag : Byte) (payload : List Byte)
  /-- REFERENCE (R138) -/
  | reference (tag : Byte) (payload : List Byte)
  /-- BYPASS_CELL (R18) -/
  | bypassCell (tag : Byte) (payload : List Byte)
  /-- RETURN_CELL (R19) -/
  | returnCell (tag : Byte) (payload : List Byte)
  /-- READ_CELL (R20) -/
  | readCell (tag : Byte) (payload : List Byte)
  /-- READ_CELLS (R20) -/
  | readCells (tag : Byte) (payload : List Byte)
  /-- ROUTE_SET (R48) -/
  | routeSet (tag : Byte) (payload : List Byte)
  /-- ROUTE_READ (R49) -/
  | routeRead (tag : Byte) (payload : List Byte)
  /-- EXT_SET (R44) -/
  | extSet (tag : Byte) (payload : List Byte)
  /-- PLAN_PUT (R97) -/
  | planPut (tag : Byte) (payload : List Byte)
  /-- PLAN_DROP (R98) -/
  | planDrop (tag : Byte) (payload : List Byte)
  /-- PLAN_CLEAR (R99) -/
  | planClear (tag : Byte) (payload : List Byte)
  /-- PLAN_LIST (R100) -/
  | planList (tag : Byte) (payload : List Byte)
  /-- READ_EPISODE (R168) -/
  | readEpisode (tag : Byte) (payload : List Byte)
  /-- TAKE_NOTICES (R164) -/
  | takeNotices (tag : Byte) (payload : List Byte)
  /-- NOTICE_MASK (R163) -/
  | noticeMask (tag : Byte) (payload : List Byte)
  /-- READ_STATUS (R156) -/
  | readStatus (tag : Byte) (payload : List Byte)
  /-- LINK_RESET (R157) -/
  | linkReset (tag : Byte) (payload : List Byte)
  /-- BEAT (R25) -/
  | beat
  /-- RAMP_COMPLETION (R73) -/
  | rampCompletion
  /-- STATUS_FRAME_GOOD (R31): the slot and the characters received on its link (log entry 12) -/
  | statusFrameGood (slot : Slot) (chars : List Byte)
  /-- STATUS_FRAME_BAD (R178): the slot and the characters received on its link (log entry 12) -/
  | statusFrameBad (slot : Slot) (chars : List Byte)
  /-- ANSWER_MISSING (R32) -/
  | answerMissing (slot : Slot)
  /-- EXT_LINE_SAMPLE (R43): the line and the level at its input, in millivolts -/
  | extLineSample (line : ExtLine) (millivolts : Nat)
  /-- FEEDBACK_SAMPLE (R3): the slot and the level of its feedback input -/
  | feedbackSample (slot : Slot) (high : Bool)
  /-- BYPASS_TIMEOUT (R9) -/
  | bypassTimeout (slot : Slot)
  /-- RETURN_OPERATION_TIMEOUT (R11) -/
  | returnOperationTimeout (slot : Slot)
  /-- GATE_COMPLETION (R112) -/
  | gateCompletion
  /-- SETTLE_EXPIRY (R67) -/
  | settleExpiry
  /-- WINDOW_EXPIRY (R85) -/
  | windowExpiry
  /-- HANDOVER_EXPIRY (R76) -/
  | handoverExpiry
  /-- SUPERVISION_EXPIRY (R140) -/
  | supervisionExpiry
  /-- ENCODER_SAMPLE (R109): the levels of ENC_A and ENC_B -/
  | encoderSample (a b : Bool)
  /-- RECEIVE_BYTE (R148) -/
  | receiveByte (byte : Byte)
  deriving DecidableEq, Repr

end Sys2Proof
end

