-- ==== Sys2Proof/Config.lean ====
section
/-! DEFINITION. The twenty-one parameters of the FR-309 with their values after device reset (11, R169),
the rate of the control link (R147), the part's fixed capacities and the free value. -/

namespace Sys2Proof

/-- The parameters of R169 in field order. `n` is absent until the first CONFIGURE. -/
structure Config where
  /-- field 1, cells per phase -/
  n : Option Nat := none
  /-- field 2, carrier period in ticks -/
  period : Nat := 10000
  /-- field 3, L -/
  linkLoss : Nat := 4
  /-- field 4, V_trip -/
  vTrip : Nat := 700
  /-- field 5, V_release -/
  vRelease : Nat := 820
  /-- field 6, milliseconds -/
  bypassTimeout : Nat := 60
  /-- field 7, milliseconds -/
  settle : Nat := 5
  /-- field 8, milliseconds -/
  window : Nat := 400
  /-- field 9, R, milliseconds -/
  ramp : Nat := 80
  /-- field 10, milliseconds -/
  handover : Nat := 50
  /-- field 11, milliseconds -/
  supervision : Nat := 20
  /-- field 12 -/
  minCells : Nat := 2
  /-- field 13, F_max -/
  fMax : Nat := 3
  /-- field 14, E -/
  encoderLines : Nat := 2048
  /-- field 15, p -/
  polePairs : Nat := 2
  /-- field 16, W, milliseconds -/
  gate : Nat := 10
  /-- field 17, f_rated, cHz -/
  fRated : Nat := 5000
  /-- field 18, per mille -/
  boost : Nat := 20
  /-- field 19, f_limit, cHz -/
  fLimit : Nat := 6000
  /-- field 20, f_over, cHz -/
  fOver : Nat := 5750
  /-- field 21, the runaway margin, cHz -/
  runaway : Nat := 300
  deriving DecidableEq, Repr

/-- The rate of the control link, chosen by the straps (R147). -/
inductive Baud where
  | b115200
  | b460800
  | b921600
  | b2000000
  deriving DecidableEq, Repr

/-- The request queue's capacity (R151). -/
abbrev Config.requestCapacity : Nat := 4

/-- The reply queue's capacity (R152). -/
abbrev Config.replyCapacity : Nat := 2

/-- The notice queue's capacity (R160). -/
abbrev Config.noticeCapacity : Nat := 16

/-- The plan table's capacity (R95). -/
abbrev Config.planCapacity : Nat := 32

/-- The episode history's capacity (R90). -/
abbrev Config.historyCapacity : Nat := 4

/-- The largest payload of a frame (R148). -/
abbrev Config.maxPayload : Nat := 240

/-- What an external trip line reads at a level between 0.8 V and 2.0 V, in millivolts, at a given free
reading: the manual gives no value there, so this one is free (section 12.3, R179; log entry 23). -/
opaque Config.levelBetween (millivolts reading : Nat) : Bool

end Sys2Proof
end

