-- ==== Sys2Proof/Machine/State.lean ====
section
/-! DEFINITION. The state of the FR-309: every register, record, queue, counter, timer and output line the
manual gives it, as plain data, with its values right after device reset; and the fault and refusal reasons. -/

namespace Sys2Proof.Machine

/-! ## Cell table (01) -/

/-- The eight cell states (R1, section 1.2). -/
inductive SlotState where
  | absent
  | active
  | parked
  | faulted
  | bypassing
  | bypassed
  | returning
  | stuck
  deriving DecidableEq, Repr

/-- A route's action (R46). -/
inductive Action where
  | ignore
  | note
  | ride
  | halt
  deriving DecidableEq, Repr

/-- A route's kind (R46). -/
inductive RouteKind where
  | level
  | latched
  deriving DecidableEq, Repr

/-- A source's pending record (R1, R45, R50). `route` is 0 to 7, or 8 for the default route. -/
structure PendingFault where
  code : Code
  route : Nat
  kind : RouteKind
  action : Action
  q : Nat
  count : Nat
  firstSeen : PartTime
  deriving DecidableEq, Repr

/-- A source's last qualified fault (R54). -/
structure QualifiedFault where
  code : Code
  action : Action
  time : PartTime
  deriving DecidableEq, Repr

/-- What the fault intake keeps for a source, a slot (R1) or an external line (R45). -/
structure FaultFacts where
  pending : Option PendingFault := none
  last : Option QualifiedFault := none
  count : Nat := 0
  noted : Option Code := none
  deriving DecidableEq, Repr

/-- The mode sent to a cell (R26). -/
inductive Mode where
  | block
  | zero
  | run
  deriving DecidableEq, Repr

/-- The six fields of a command frame (R26). -/
structure CommandFrame where
  mode : Mode
  index : Nat
  angle : Nat
  offset : Nat
  period : Nat
  generation : BitVec 2
  deriving DecidableEq, Repr

/-- What the cell link hub keeps for a slot: the fields of R1 it owns, the frame sent in the latest
beat with its bytes on the line, and the answer window (R30). `awaiting`: the window is open and no
good frame has been taken in it; `owed`: how many windows have closed so whose missing answers are not yet
taken; `group`: the characters received in the window that do not yet make a group of six (R178). -/
structure LinkFacts where
  up : Bool := false
  missing : Nat := 0
  bus : Nat := 0
  code : Nat := 0
  echo : Nat := 0
  busLow : Bool := false
  sent : Option CommandFrame := none
  wire : List Byte := []
  awaiting : Bool := false
  owed : Nat := 0
  group : List Byte := []
  deriving DecidableEq, Repr

/-- The position a feedback input reports (R3, R179). -/
inductive Feedback where
  | opened
  | closed
  deriving DecidableEq, Repr

/-- The kind of a pulse operation that is not NONE (R5). -/
inductive PulseKind where
  | close
  | opening
  deriving DecidableEq, Repr

/-- A pulse operation in flight (R5). `judge`: the debounced feedback stood at the awaited position at
the assertion and no sample has been taken since (R8, R10). -/
structure PulseOp where
  kind : PulseKind
  asserted : PartTime
  timeout : Nat
  judge : Bool
  deriving DecidableEq, Repr

/-- What the bypass line unit keeps for a slot (R1, R3, R4, R5). `pulse` absent is NONE. -/
structure Contactor where
  feedback : Feedback := .opened
  run : Nat := 0
  runStart : PartTime := 0
  sampledAt : PartTime := 0
  closeLine : Bool := false
  openLine : Bool := false
  pulse : Option PulseOp := none
  lastClose : Option Nat := none
  lastOpen : Option Nat := none
  deriving DecidableEq, Repr

/-- A slot record (R1), with R2's reset values as defaults. -/
structure SlotRecord where
  state : SlotState := .absent
  fault : FaultFacts := {}
  link : LinkFacts := {}
  contactor : Contactor := {}
  offset : Option Nat := none
  deriving DecidableEq, Repr

/-! ## Fault intake and router (03) -/

/-- An external line's polarity (R43). -/
inductive Polarity where
  | activeHigh
  | activeLow
  deriving DecidableEq, Repr

/-- An external line's record (R45). `sampledAt` is the sampling clock of R43. -/
structure LineRecord where
  enable : Bool := false
  polarity : Polarity := .activeHigh
  fault : FaultFacts := {}
  sampledAt : PartTime := 0
  deriving DecidableEq, Repr

/-- A route window (R46). -/
structure RouteWindow where
  enabled : Bool := false
  value : Code := 0
  mask : Code := 0
  action : Action := .ignore
  kind : RouteKind := .level
  q : Nat := 1
  deriving DecidableEq, Repr

/-! ## Plan store (05) -/

/-- Cell counts of phases A, B and C: a plan's key (R94). -/
structure PlanKey where
  a : Nat
  b : Nat
  c : Nat
  deriving DecidableEq, Repr

/-- A plan table entry (R94). -/
structure PlanEntry where
  key : PlanKey
  lagB : Nat
  lagC : Nat
  r : Nat
  deriving DecidableEq, Repr

/-- Where a committed plan came from (R106). -/
inductive PlanSource where
  | table (key : PlanKey)
  | fallback
  deriving DecidableEq, Repr

/-- The plan fields an episode record copies (R62). -/
structure PlanFields where
  counts : PlanKey
  lagB : Nat
  lagC : Nat
  r : Nat
  source : PlanSource
  parked : List Slot
  deriving DecidableEq, Repr

/-- The committed plan (R106). -/
structure CommittedPlan where
  fields : PlanFields
  period : Nat
  deriving DecidableEq, Repr

/-! ## Episode controller (04) -/

/-- A running timer: the part time of its start and its length in microseconds (R66, R139). -/
structure Timer where
  start : PartTime
  length : Nat
  deriving DecidableEq, Repr

/-- The phases of an episode (R62). -/
inductive EpisodePhase where
  | isolate
  | bypass
  | plan
  | recharge
  | capture
  | magnetize
  | handover
  deriving DecidableEq, Repr

/-- The outcome of an involved entry (R64). -/
inductive InvolvedOutcome where
  | pending
  | bypassed
  | stuck
  deriving DecidableEq, Repr

/-- An entry of the involved cells list (R64). -/
structure InvolvedEntry where
  slot : Slot
  code : Code
  route : Nat
  closeTime : Option Nat
  outcome : InvolvedOutcome
  deriving DecidableEq, Repr

/-- The capture group (R62, R117). -/
structure Capture where
  fr : Int
  ut : Nat
  fCeil : Nat
  reduced : Bool
  deriving DecidableEq, Repr

/-- The failure causes (R89). -/
inductive FailureCause where
  | window
  | bypassTimeout
  | insufficientCells
  | tooManyFaults
  | haltFault
  | overspeed
  | runaway
  | encoder
  | bypassLost
  | handoverTimeout
  | aborted
  deriving DecidableEq, Repr

/-- The outcome of a closed episode (R62). -/
inductive EpisodeOutcome where
  | restored
  | failed (cause : FailureCause) (code : Code)
  deriving DecidableEq, Repr

/-- The episode record (R62). -/
structure EpisodeRecord where
  number : Nat
  opened : PartTime
  phase : EpisodePhase
  fTrip : Int
  involved : List InvolvedEntry
  reisolations : Nat
  plan : Option PlanFields
  capture : Option Capture
  outcome : Option EpisodeOutcome
  closed : Option PartTime
  deriving DecidableEq, Repr

/-- The episode controller: the open record, its three timers, the number counter and the history,
newest first (R62, R63, R66, R90). -/
structure EpisodeCtl where
  current : Option EpisodeRecord := none
  settle : Option Timer := none
  window : Option Timer := none
  handover : Option Timer := none
  counter : Nat := 0
  history : List EpisodeRecord := []
  deriving DecidableEq, Repr

/-! ## Drive state controller (07) -/

/-- The five drive states (R128). -/
inductive DriveState where
  | unconfigured
  | stopped
  | running
  | riding
  | halted
  deriving DecidableEq, Repr

/-- The reference in force (R136). -/
structure Reference where
  demand : Nat
  frequency : Int
  mag : Nat
  freq : Int
  limited : Bool
  clamped : Bool
  time : PartTime
  deriving DecidableEq, Repr

/-- The drive state controller (R128). -/
structure DriveCtl where
  state : DriveState := .unconfigured
  supervision : Option Timer := none
  reference : Option Reference := none
  haltCause : Option Code := none
  deriving DecidableEq, Repr

/-! ## Speed unit and modulation generator (06) -/

/-- The running gate with the parameters it holds (R109, R110). -/
structure Gate where
  start : PartTime
  encoderLines : Nat
  polePairs : Nat
  length : Nat
  count : Int
  illegal : Nat
  deriving DecidableEq, Repr

/-- A speed result, with R111's reset values as defaults. -/
structure SpeedResult where
  f : Int := 0
  count : Int := 0
  valid : Bool := false
  saturated : Bool := false
  time : PartTime := 0
  deriving DecidableEq, Repr

/-- The speed unit: the held state of lines A and B, absent until the first sample after a device
reset, the running gate and the last speed result (R109, R110, R111). -/
structure SpeedUnit where
  held : Option (Bool × Bool) := none
  gate : Option Gate := none
  last : SpeedResult := {}
  deriving DecidableEq, Repr

/-- The modulation generator (R119, R120, R123). `rampDone`: the ramp's completion has been handed to
the episode controller and not yet taken (R72, R74). -/
structure ModGen where
  theta : Nat := 0
  mag : Nat := 0
  freq : Int := 0
  rampPos : Nat := 0
  rampDone : Bool := false
  deriving DecidableEq, Repr

/-! ## Notice queue (10) -/

/-- The source a FAULT_NOTED notice names (R159). -/
inductive NoteSource where
  | slot (s : Slot)
  | line (l : ExtLine)
  | speedUnit
  deriving DecidableEq, Repr

/-- The six kinds of notice with their fields (R159). EPISODE_CLOSED with no cause is RESTORED. -/
inductive NoticeBody where
  | cellState (slot : Slot) (old new : SlotState) (cause : Code)
  | faultNoted (source : NoteSource) (code : Code) (route : Option Nat)
  | episodeOpened (number : Nat) (slot : Slot) (code : Code) (fTrip : Int)
  | restartReady (number : Nat) (fr : Int) (ut r fCeil : Nat) (reduced : Bool)
  | episodeClosed (number : Nat) (failure : Option FailureCause)
  | driveState (new : DriveState) (cause : Code)
  deriving DecidableEq, Repr

/-- A notice, stamped with part time (R159). -/
structure Notice where
  time : PartTime
  body : NoticeBody
  deriving DecidableEq, Repr

/-- The notice queue, oldest first, and its three settings (R160 to R163). Bit i of `mask` enables the
kind numbered i + 1. -/
structure NoticeQueue where
  items : List Notice := []
  mask : BitVec 6 := 0b111111
  threshold : Nat := 1
  overflow : Nat := 0
  deriving DecidableEq, Repr

/-! ## Control link controller (09) -/

/-- A request held in the request queue (R151). -/
structure Request where
  kind : Byte
  tag : Byte
  payload : List Byte
  deriving DecidableEq, Repr

/-- The refusal causes (R153); RANGE and MISSING carry the field's id. -/
inductive RefusalCause where
  | busy
  | unknownKind
  | length
  | state
  | range (field : Nat)
  | missing (field : Nat)
  | invalid
  | full
  | notFound
  | cellNotReady
  | insufficient
  | moving
  deriving DecidableEq, Repr

/-- What a reply says: OK with the bytes after the result byte, or a refusal (R153). -/
inductive Answer where
  | ok (bytes : List Byte)
  | refused (cause : RefusalCause)
  deriving DecidableEq, Repr

/-- A reply in the reply queue (R153). -/
structure Reply where
  kind : Byte
  tag : Byte
  answer : Answer
  deriving DecidableEq, Repr

/-- The frame whose BUSY refusal the refusal slot holds (R151). -/
structure BusyRefusal where
  kind : Byte
  tag : Byte
  deriving DecidableEq, Repr

/-- Where the frame being sent comes from (R154). -/
inductive TxSource where
  | busy
  | reply
  deriving DecidableEq, Repr

/-- The frame being sent: its source, its bytes and the part time its transmission began (R154). -/
structure Transmission where
  source : TxSource
  bytes : List Byte
  start : PartTime
  deriving DecidableEq, Repr

/-- The receiver: hunting, or assembling with the bytes taken after the start byte and the part time of
the last byte (R148). -/
inductive Receiver where
  | hunting
  | assembling (bytes : List Byte) (lastByte : PartTime)
  deriving DecidableEq, Repr

/-- The control link controller (R147 to R154). -/
structure LinkCtl where
  rate : Baud := .b115200
  rx : Receiver := .hunting
  requests : List Request := []
  refusal : Option BusyRefusal := none
  replies : List Reply := []
  tx : Option Transmission := none
  discarded : Nat := 0
  deriving DecidableEq, Repr

/-- The three outputs, true when asserted (R130, R131, R162). -/
structure Lines where
  brkDemand : Bool := true
  rideActive : Bool := false
  attn : Bool := false
  deriving DecidableEq, Repr

/-- The whole state. The field defaults are the values after device reset. `beatAt` is the start of the
latest beat (R25); `inReset` holds while a device reset lasts (R179); `freeReadings` counts the readings
whose value the manual leaves open, so that each has a free value of its own (log entry 23); `pending` is
the queue of the commands that are waiting, first in, first out. -/
structure State where
  config : Config := {}
  slots : Vector SlotRecord 27 := Vector.replicate 27 {}
  extLines : Vector LineRecord 4 := Vector.replicate 4 {}
  windows : Vector RouteWindow 8 := Vector.replicate 8 {}
  plans : List PlanEntry := []
  committed : Option CommittedPlan := none
  sync : BitVec 2 := 0
  beatAt : PartTime := 0
  drive : DriveCtl := {}
  episode : EpisodeCtl := {}
  speed : SpeedUnit := {}
  mod : ModGen := {}
  notices : NoticeQueue := {}
  link : LinkCtl := {}
  outputs : Lines := {}
  partTime : PartTime := 0
  inReset : Bool := false
  freeReadings : Nat := 0
  pending : List Instr := []
  deriving DecidableEq, Repr

/-- The part right after a device reset has ended, every field at the value its chapter gives (R2, R36,
R45, R46, R63, R95, R106, R111, R127, R128, R150, R155, R166, R169). The strap rate is 115200
(DESIGN CHOICE, unsafe: log entry 1). -/
def State.reset : State := {}

/-- The machine has no fault: the manual names no event that stops the part. -/
inductive Fault where
  deriving DecidableEq, Repr

/-- Why a command is refused. -/
inductive Refusal where
  /-- Raised by `exec`'s arm of a command that has no meaning yet; safe. No arm raises it. -/
  | notModelled (mnemonic : String)
  deriving DecidableEq, Repr

end Sys2Proof.Machine
end

