-- ==== Sys2Proof/Machine/Arith.lean ====
section
/-! DEFINITION. The manual's arithmetic: rounding and mod (00_scope, "Rounding"), saturating counts, slot
order, the encoder's step, the speed result, the restart figures, the clamps, the angle, the modulation
index and the carrier offsets (06). -/

namespace Sys2Proof.Machine

/-- All slots in slot order, A1 to C9 (01, section 1.1). -/
def allSlots : List Slot :=
  [0, 1, 2, 3, 4, 5, 6, 7, 8, 9, 10, 11, 12, 13, 14, 15, 16, 17, 18, 19, 20, 21, 22, 23, 24, 25, 26]

/-- A slot's phase: 0, 1, 2 for A, B, C. -/
def slotPhase (i : Slot) : Nat := i.val / 9

/-- A slot's position within its phase, 1 to 9. -/
def slotPosition (i : Slot) : Nat := i.val % 9 + 1

/-- A count that saturates (00_scope, "Counts that saturate"). -/
def bump (limit n : Nat) : Nat := min limit (n + 1)

/-- A non-negative quotient rounded half up. -/
def divHalfUp (a b : Nat) : Nat := (2 * a + b) / (2 * b)

/-- A signed quotient rounded half away from zero. -/
def divHalfAway (a : Int) (b : Nat) : Int := a.sign * (divHalfUp a.natAbs b : Nat)

/-- `x mod m`, between 0 and m - 1 also for a negative x. -/
def modNat (x : Int) (m : Nat) : Nat := (x % (m : Int)).toNat

/-! ## Speed unit -/

/-- The place of a line state (A, B) in the forward order (06, section 6.1). -/
def quadrature : Bool × Bool → Nat
  | (false, false) => 0
  | (true, false) => 1
  | (true, true) => 2
  | (false, true) => 3

/-- What a sample counts after the held state (R109): no change, a quarter-step forward or reverse, or
an illegal transition. -/
inductive EncoderStep where
  | still
  | forward
  | reverse
  | illegal
  deriving DecidableEq, Repr

/-- The comparison of a sample with the held state (R109). -/
def encoderStep (held now : Bool × Bool) : EncoderStep :=
  match (quadrature now + 4 - quadrature held) % 4 with
  | 0 => .still
  | 1 => .forward
  | 3 => .reverse
  | _ => .illegal

/-- The gate's count, held within its 24-bit range (R109). -/
def clampCount (c : Int) : Int := max (-8388608) (min 8388607 c)

/-- A gate after a step is counted into it (R109). -/
def Gate.counted (g : Gate) : EncoderStep → Gate
  | .still => g
  | .forward => { g with count := clampCount (g.count + 1) }
  | .reverse => { g with count := clampCount (g.count - 1) }
  | .illegal => { g with illegal := bump 255 g.illegal }

/-- The frequency of a gate's count before saturation (R111). -/
def gateFrequency (g : Gate) : Int :=
  if g.count.natAbs < 2 then 0
  else divHalfAway (g.count * g.polePairs * 25000) (g.encoderLines * g.length)

/-- The speed result a gate gives when it completes at `now` (R111). -/
def Gate.result (g : Gate) (now : PartTime) : SpeedResult :=
  let f := gateFrequency g
  { f := max (-32767) (min 32767 f)
    count := g.count
    valid := decide (g.illegal < 8)
    saturated := decide (32767 < f.natAbs)
    time := now }

/-! ## Restart magnitude and ceiling -/

/-- The capture group from the captured frequency, with the configuration and the committed plan's r
(R117). -/
def captureFrom (f : Int) (c : Config) (r : Nat) : Capture :=
  let uRaw := divHalfUp (1000 * f.natAbs) c.fRated + c.boost
  { fr := f
    ut := min uRaw r
    fCeil := if c.boost < r then (r - c.boost) * c.fRated / 1000 else 0
    reduced := decide (r < uRaw) }

/-- The beats of the magnetise ramp after beat 0 (R119). -/
def rampBeats (c : Config) : Nat := 10 * c.ramp

/-- The applied magnitude at ramp beat `j` of `n` (R119). -/
def rampMagnitude (ut j n : Nat) : Nat := ut * j / n

/-! ## Reference -/

/-- The reference an accepted REFERENCE puts in force, under the clamps of R122. -/
def referenceFrom (demand : Nat) (f : Int) (r fLimit : Nat) (now : PartTime) : Reference :=
  { demand := demand
    frequency := f
    mag := min demand r
    freq := max (-(fLimit : Int)) (min (fLimit : Int) f)
    limited := decide (r < demand)
    clamped := decide (fLimit < f.natAbs)
    time := now }

/-! ## Angle, index and offsets -/

/-- The units of the angle accumulator in a turn (R120). -/
def turnUnits : Nat := 36000000

/-- The accumulator after a beat at frequency `f` (R120). -/
def advanceAngle (theta : Nat) (f : Int) : Nat := modNat ((theta : Int) + f * 36) turnUnits

/-- The angle sent to a phase with the given lag (R121). -/
def phaseAngle (theta lag : Nat) : Nat := modNat (((theta / 10000 : Nat) : Int) - (lag : Int)) 3600

/-- The modulation index of magnitude `u` against `r` (R124). -/
def modulationIndex (u r : Nat) : Nat := min 1000 (divHalfUp (1000 * u) r)

/-- The carrier offset of place `j` among `m` ACTIVE slots of the phase numbered `x`, with period `p`
(R125). -/
def carrierOffset (x m j p : Nat) : Nat := (j * p / (2 * m) + x * p / (6 * m)) % p

/-- The lower bound on a plan's r, also the fallback's r: floor(1000 m / N) (R94, R104). -/
def ratioFloor (m n : Nat) : Nat := 1000 * m / n

/-- The smallest of a key's three counts. -/
def PlanKey.smallest (k : PlanKey) : Nat := min k.a (min k.b k.c)

/-- A key's count for the phase numbered 0, 1 or 2. -/
def PlanKey.ofPhase (k : PlanKey) (x : Nat) : Nat := if x = 0 then k.a else if x = 1 then k.b else k.c

/-- The order of keys: a, then b, then c (R95). -/
def PlanKey.before (k l : PlanKey) : Bool :=
  decide (k.a < l.a) || (decide (k.a = l.a) &&
    (decide (k.b < l.b) || (decide (k.b = l.b) && decide (k.c < l.c))))

end Sys2Proof.Machine
end

