-- ==== Sys2Proof/Machine/Formats.lean ====
section
/-! DEFINITION. The byte layouts of 12_formats_and_pins: value encodings, enumeration numbers, the two
frame checks, frames, and the bodies of records and replies (R149, R176, R177, R178). A bit of a flag,
presence, list or packed byte that its layout does not name is sent 0 (DESIGN CHOICE: log entry 24). -/

namespace Sys2Proof.Machine

/-! ## Value encodings (12, "Value encodings") -/

/-- A one-byte unsigned value. -/
def byte1 (n : Nat) : List Byte := [BitVec.ofNat 8 n]

/-- The two bytes of a 16-bit value, most significant first. -/
def byte2Of (w : BitVec 16) : List Byte := [w.extractLsb' 8 8, w.extractLsb' 0 8]

/-- A two-byte unsigned value. -/
def byte2 (n : Nat) : List Byte := byte2Of (BitVec.ofNat 16 n)

/-- A two-byte signed value. -/
def byte2s (i : Int) : List Byte := byte2Of (BitVec.ofInt 16 i)

/-- A three-byte signed value: the count C. -/
def byte3s (i : Int) : List Byte :=
  let w := BitVec.ofInt 24 i
  [w.extractLsb' 16 8, w.extractLsb' 8 8, w.extractLsb' 0 8]

/-- A four-byte part time. -/
def byte4 (t : PartTime) : List Byte :=
  [t.extractLsb' 24 8, t.extractLsb' 16 8, t.extractLsb' 8 8, t.extractLsb' 0 8]

/-- A value with the bytes of its absence, all 0 (12, "Other fixed reply layouts"). -/
def orZeros {α : Type} (n : Nat) (o : Option α) (f : α → List Byte) : List Byte :=
  match o with
  | none => List.replicate n 0
  | some x => f x

/-- A flag as bit `k` of a flag or presence byte, whose unnamed bits are sent 0 (DESIGN CHOICE: log entry
24). -/
def flagBit (k : Nat) (b : Bool) : Nat := if b then 2 ^ k else 0

/-- The unsigned value of bytes sent most significant first. -/
def valueOf (bytes : List Byte) : Nat := bytes.foldl (fun acc b => 256 * acc + b.toNat) 0

/-- The signed value of a two-byte field. -/
def signed16 (n : Nat) : Int := (BitVec.ofNat 16 n).toInt

/-- The slot byte: phase 1 to 3 in bits 4 to 7, position in bits 0 to 3. -/
def slotByte (i : Slot) : Nat := 16 * (slotPhase i + 1) + slotPosition i

/-- The slot a slot byte names, if it names one (R17). -/
def slotOfByte (n : Nat) : Option Slot :=
  if h : 1 ≤ n / 16 ∧ n / 16 ≤ 3 ∧ 1 ≤ n % 16 ∧ n % 16 ≤ 9 then
    some ⟨9 * (n / 16 - 1) + (n % 16 - 1), by omega⟩
  else none

/-! ## Enumerations (12, section 12.1) -/

def driveStateCode : DriveState → Nat
  | .unconfigured => 0
  | .stopped => 1
  | .running => 2
  | .riding => 3
  | .halted => 4

def slotStateCode : SlotState → Nat
  | .absent => 0
  | .active => 1
  | .parked => 2
  | .faulted => 3
  | .bypassing => 4
  | .bypassed => 5
  | .returning => 6
  | .stuck => 7

def phaseCode : EpisodePhase → Nat
  | .isolate => 1
  | .bypass => 2
  | .plan => 3
  | .recharge => 4
  | .capture => 5
  | .magnetize => 6
  | .handover => 7

def actionCode : Action → Nat
  | .ignore => 0
  | .note => 1
  | .ride => 2
  | .halt => 3

/-- The action a byte names, if it names one. -/
def actionOf : Nat → Option Action
  | 0 => some .ignore
  | 1 => some .note
  | 2 => some .ride
  | 3 => some .halt
  | _ => none

def routeKindCode : RouteKind → Nat
  | .level => 0
  | .latched => 1

/-- The route kind a byte names, if it names one. -/
def routeKindOf : Nat → Option RouteKind
  | 0 => some .level
  | 1 => some .latched
  | _ => none

def polarityCode : Polarity → Nat
  | .activeHigh => 0
  | .activeLow => 1

/-- The polarity a byte names, if it names one. -/
def polarityOf : Nat → Option Polarity
  | 0 => some .activeHigh
  | 1 => some .activeLow
  | _ => none

/-- A flag byte: set, clear, or neither (R177). -/
def flagOf : Nat → Option Bool
  | 0 => some false
  | 1 => some true
  | _ => none

def involvedOutcomeCode : InvolvedOutcome → Nat
  | .pending => 0
  | .bypassed => 1
  | .stuck => 2

def failureCode : FailureCause → Nat
  | .window => 1
  | .bypassTimeout => 2
  | .insufficientCells => 3
  | .tooManyFaults => 4
  | .haltFault => 5
  | .overspeed => 6
  | .runaway => 7
  | .encoder => 8
  | .bypassLost => 9
  | .handoverTimeout => 10
  | .aborted => 11

def modeCode : Mode → Nat
  | .block => 0
  | .zero => 1
  | .run => 2

/-- The result byte of a refusal (12, "Result"). -/
def refusalCode : RefusalCause → Nat
  | .busy => 1
  | .unknownKind => 2
  | .length => 3
  | .state => 4
  | .range _ => 5
  | .missing _ => 6
  | .invalid => 7
  | .full => 8
  | .notFound => 9
  | .cellNotReady => 10
  | .insufficient => 11
  | .moving => 12

/-! ## Frame checks -/

/-- One bit of the CRC-16 of R149. -/
def crc16Bit (c : BitVec 16) : BitVec 16 := if c.msb then (c <<< 1) ^^^ 0x1021 else c <<< 1

/-- `n` bits of the CRC-16. -/
def crc16Bits : Nat → BitVec 16 → BitVec 16
  | 0, c => c
  | n + 1, c => crc16Bits n (crc16Bit c)

/-- One byte of the CRC-16. -/
def crc16Byte (c : BitVec 16) (b : Byte) : BitVec 16 := crc16Bits 8 (c ^^^ (b.setWidth 16 <<< 8))

/-- The frame check of the control link: polynomial 0x1021, initial value 0xFFFF (R149). -/
def crc16 (bytes : List Byte) : BitVec 16 := bytes.foldl crc16Byte 0xFFFF

/-- One bit of the CRC-8 of R178. -/
def crc8Bit (c : Byte) : Byte := if c.msb then (c <<< 1) ^^^ 0x07 else c <<< 1

/-- `n` bits of the CRC-8. -/
def crc8Bits : Nat → Byte → Byte
  | 0, c => c
  | n + 1, c => crc8Bits n (crc8Bit c)

/-- The frame check of the cell links: polynomial 0x07, initial value 0 (R178). -/
def crc8 (bytes : List Byte) : Byte := bytes.foldl (fun c b => crc8Bits 8 (c ^^^ b)) 0

/-! ## Control link frames (R148, R153, R177) -/

/-- The start byte. -/
def startByte : Byte := 0xC3

/-- The bytes of a frame the check covers: length, kind, tag and payload (R149). -/
def frameBody (kind tag : Byte) (payload : List Byte) : List Byte :=
  BitVec.ofNat 8 payload.length :: kind :: tag :: payload

/-- A whole frame on the line (R148). -/
def frameBytes (kind tag : Byte) (payload : List Byte) : List Byte :=
  startByte :: (frameBody kind tag payload ++ byte2Of (crc16 (frameBody kind tag payload)))

/-- A refusal's payload: the result byte, and for RANGE and MISSING the field id (R153, R177). -/
def refusalBytes (c : RefusalCause) : List Byte :=
  match c with
  | .range i => byte1 (refusalCode c) ++ byte1 i
  | .missing i => byte1 (refusalCode c) ++ byte1 i
  | _ => byte1 (refusalCode c)

/-- A reply's payload (R177). -/
def answerBytes : Answer → List Byte
  | .ok bytes => 0 :: bytes
  | .refused c => refusalBytes c

/-- The frame of a reply. -/
def replyFrame (r : Reply) : List Byte := frameBytes r.kind r.tag (answerBytes r.answer)

/-- The frame of a BUSY refusal (R153). -/
def busyFrame (b : BusyRefusal) : List Byte := frameBytes b.kind b.tag (refusalBytes .busy)

/-- An item of a reply sent in the request form (R177). -/
def item (id : Nat) (value : List Byte) : List Byte := byte1 id ++ value

/-! ## Cell link frames (12, section 12.2) -/

/-- A command frame's bytes before the check. The bits of the first byte that the layout does not name, 2, 3, 6
and 7, are sent 0 (DESIGN CHOICE: log entry 24). -/
def commandBody (f : CommandFrame) : List Byte :=
  byte1 (modeCode f.mode + 16 * f.generation.toNat) ++ byte2 f.index ++ byte2 f.angle ++
    byte2 f.offset ++ byte2 f.period ++ [0]

/-- The eleven bytes of a command frame. -/
def commandBytes (f : CommandFrame) : List Byte := commandBody f ++ [crc8 (commandBody f)]

/-- The three fields of a status frame (R30). -/
structure CellReport where
  bus : Nat
  code : Nat
  echo : Nat
  deriving DecidableEq, Repr

/-- The fields of a received frame that R178 counts as good: its check is correct, it is complete at six
bytes and its fields lie in range. -/
def reportOf : List Byte → Option CellReport
  | [b1, b0, c1, c0, e, check] =>
    let bus := valueOf [b1, b0]
    let code := valueOf [c1, c0]
    if crc8 [b1, b0, c1, c0, e] = check ∧ bus ≤ 2047 ∧ code ≤ 0xFFF ∧ e.toNat ≤ 3 then
      some { bus := bus, code := code, echo := e.toNat }
    else none
  | _ => none

/-- The six bytes of a status frame with the given fields. -/
def reportBytes (r : CellReport) : List Byte :=
  let body := byte2 r.bus ++ byte2 r.code ++ byte1 r.echo
  body ++ [crc8 body]

/-! ## Records -/

/-- The eleven bytes of a pending fault (READ_CELL, ROUTE_READ). -/
def pendingBytes (p : Option PendingFault) : List Byte :=
  orZeros 11 p fun p => byte2Of p.code ++ byte1 p.route ++ byte1 (routeKindCode p.kind) ++
    byte1 (actionCode p.action) ++ byte1 p.q ++ byte1 p.count ++ byte4 p.firstSeen

/-- The seven bytes of a last qualified fault. -/
def qualifiedBytes (q : Option QualifiedFault) : List Byte :=
  orZeros 7 q fun q => byte2Of q.code ++ byte1 (actionCode q.action) ++ byte4 q.time

/-- A READ_CELL reply's 44 bytes after the result. -/
def cellBytes (i : Slot) (r : SlotRecord) : List Byte :=
  byte1 (slotByte i) ++ byte1 (slotStateCode r.state) ++
  byte1 (flagBit 0 r.fault.pending.isSome + flagBit 1 r.fault.last.isSome +
    flagBit 2 r.fault.noted.isSome + flagBit 3 r.offset.isSome +
    flagBit 4 r.contactor.lastClose.isSome + flagBit 5 r.contactor.lastOpen.isSome) ++
  pendingBytes r.fault.pending ++ qualifiedBytes r.fault.last ++ byte1 r.fault.count ++
  orZeros 2 r.fault.noted byte2Of ++
  byte1 (flagBit 0 r.link.up + flagBit 1 r.link.busLow +
    flagBit 2 (decide (r.contactor.feedback = .closed))) ++
  byte1 r.link.missing ++ byte2 r.link.bus ++ byte2 r.link.code ++ byte1 r.link.echo ++
  orZeros 2 r.offset byte2 ++ orZeros 2 r.contactor.lastClose byte2 ++
  orZeros 2 r.contactor.lastOpen byte2 ++
  (match r.contactor.pulse with
   | none => byte1 0 ++ byte4 0 ++ byte2 0
   | some p => byte1 (match p.kind with | .close => 1 | .opening => 2) ++ byte4 p.asserted ++
       byte2 p.timeout)

/-- A slot's byte of a READ_CELLS reply (R177). Bits 3, 6 and 7, which the layout does not name, are sent 0
(DESIGN CHOICE: log entry 24). -/
def cellSummary (r : SlotRecord) : Nat :=
  slotStateCode r.state + flagBit 4 r.link.up + flagBit 5 (decide (r.contactor.feedback = .closed))

/-- A plan's source and key bytes. -/
def sourceBytes : PlanSource → List Byte
  | .fallback => byte1 0 ++ byte1 0 ++ byte1 0 ++ byte1 0
  | .table k => byte1 1 ++ byte1 k.a ++ byte1 k.b ++ byte1 k.c

/-- A key's three bytes. -/
def keyBytes (k : PlanKey) : List Byte := byte1 k.a ++ byte1 k.b ++ byte1 k.c

/-- A plan table entry's nine bytes. -/
def entryBytes (e : PlanEntry) : List Byte := keyBytes e.key ++ byte2 e.lagB ++ byte2 e.lagC ++ byte2 e.r

/-- A route window's fields in the fixed layout of ROUTE_READ, from the enabled byte on. -/
def windowBytes (w : RouteWindow) : List Byte :=
  byte1 (flagBit 0 w.enabled) ++ byte2Of w.value ++ byte2Of w.mask ++ byte1 (actionCode w.action) ++
    byte1 (routeKindCode w.kind) ++ byte1 w.q

/-- A ROUTE_READ reply for a line, after the result. -/
def lineBytes (l : ExtLine) (r : LineRecord) : List Byte :=
  byte1 (0x10 + l.val) ++ byte1 (flagBit 0 r.enable) ++ byte1 (polarityCode r.polarity) ++
  byte1 (flagBit 0 r.fault.pending.isSome + flagBit 1 r.fault.last.isSome +
    flagBit 2 r.fault.noted.isSome) ++
  pendingBytes r.fault.pending ++ qualifiedBytes r.fault.last ++ byte1 r.fault.count ++
  orZeros 2 r.fault.noted byte2Of

/-- The number of a notice's kind. -/
def noticeKind : NoticeBody → Nat
  | .cellState .. => 1
  | .faultNoted .. => 2
  | .episodeOpened .. => 3
  | .restartReady .. => 4
  | .episodeClosed .. => 5
  | .driveState .. => 6

/-- The source byte of a FAULT_NOTED notice. -/
def noteSourceByte : NoteSource → Nat
  | .slot i => slotByte i
  | .line l => 0x10 + l.val
  | .speedUnit => 0x20

/-- The body of a notice (12, "Notices"). -/
def noticeBodyBytes : NoticeBody → List Byte
  | .cellState i old new cause =>
    byte1 (slotByte i) ++ byte1 (slotStateCode old) ++ byte1 (slotStateCode new) ++ byte2Of cause
  | .faultNoted src code route =>
    byte1 (noteSourceByte src) ++ byte2Of code ++ byte1 (route.getD 0xFF)
  | .episodeOpened n i code f => byte2 n ++ byte1 (slotByte i) ++ byte2Of code ++ byte2s f
  | .restartReady n fr ut r fc red =>
    byte2 n ++ byte2s fr ++ byte2 ut ++ byte2 r ++ byte2 fc ++ byte1 (flagBit 0 red)
  | .episodeClosed n failure =>
    byte2 n ++ byte1 (if failure.isSome then 2 else 1) ++
      byte1 (match failure with | none => 0 | some c => failureCode c)
  | .driveState new cause => byte1 (driveStateCode new) ++ byte2Of cause

/-- A notice in a TAKE_NOTICES reply. -/
def noticeBytes (n : Notice) : List Byte :=
  byte1 (noticeKind n.body) ++ byte4 n.time ++ noticeBodyBytes n.body

/-- A READ_EPISODE reply after the result (12, "Episode record"). -/
def episodeBytes (e : EpisodeRecord) : List Byte :=
  byte2 e.number ++ byte4 e.opened ++ byte1 (phaseCode e.phase) ++ byte2s e.fTrip ++
  byte1 e.reisolations ++
  byte1 (flagBit 0 e.plan.isSome + flagBit 1 e.capture.isSome + flagBit 2 e.outcome.isSome) ++
  byte1 e.involved.length ++
  e.involved.flatMap (fun v => byte1 (slotByte v.slot) ++ byte2Of v.code ++ byte1 v.route ++
    byte2 (v.closeTime.getD 0xFFFF) ++ byte1 (involvedOutcomeCode v.outcome)) ++
  (match e.plan with
   | none => []
   | some p => keyBytes p.counts ++ byte2 p.lagB ++ byte2 p.lagC ++ byte2 p.r ++
       sourceBytes p.source ++ byte1 p.parked.length ++
       p.parked.flatMap (fun i => byte1 (slotByte i))) ++
  (match e.capture with
   | none => []
   | some c => byte2s c.fr ++ byte2 c.ut ++ byte2 c.fCeil ++ byte1 (flagBit 0 c.reduced)) ++
  (match e.outcome with
   | none => []
   | some .restored => byte1 1 ++ byte1 0 ++ byte2 0 ++ byte4 (e.closed.getD 0)
   | some (.failed cause code) =>
     byte1 2 ++ byte1 (failureCode cause) ++ byte2Of code ++ byte4 (e.closed.getD 0))

/-- A speed result's bytes in READ_STATUS. -/
def speedBytes (r : SpeedResult) : List Byte :=
  byte2s r.f ++ byte3s r.count ++ byte1 (flagBit 0 r.valid + flagBit 1 r.saturated) ++ byte4 r.time

/-- A READ_STATUS reply's 43 bytes after the result. -/
def statusBytes (s : State) : List Byte :=
  byte1 (driveStateCode s.drive.state) ++
  byte1 (flagBit 0 s.drive.haltCause.isSome + flagBit 1 s.episode.current.isSome +
    flagBit 2 s.committed.isSome) ++
  orZeros 2 s.drive.haltCause byte2Of ++
  orZeros 3 s.episode.current (fun e => byte2 e.number ++ byte1 (phaseCode e.phase)) ++
  orZeros 16 s.committed (fun p => keyBytes p.fields.counts ++ byte2 p.fields.lagB ++
    byte2 p.fields.lagC ++ byte2 p.fields.r ++ sourceBytes p.fields.source ++
    byte1 p.fields.parked.length ++ byte2 p.period) ++
  byte1 s.sync.toNat ++ speedBytes s.speed.last ++
  byte1 (match s.drive.reference with
    | none => 0
    | some r => flagBit 0 r.limited + flagBit 1 r.clamped) ++
  byte1 s.notices.items.length ++ byte1 s.notices.overflow ++ byte1 s.link.discarded ++
  byte1 (flagBit 0 s.outputs.brkDemand + flagBit 1 s.outputs.rideActive +
    flagBit 2 s.outputs.attn) ++
  byte4 s.partTime

end Sys2Proof.Machine
end

