-- ==== Sys2Proof/Machine/Flags.lean ====
section
/-! DEFINITION. The conditions the rules read from the state: a slot's configuration and candidacy, the
cascade's modulation, urgency and ATTN, timers, the recharge condition and the guards. -/

namespace Sys2Proof.Machine

/-- A slot's record. -/
def State.slot (s : State) (i : Slot) : SlotRecord := s.slots[i]

/-- An external line's record. -/
def State.line (s : State) (l : ExtLine) : LineRecord := s.extLines[l]

/-- N, or 0 while it is absent. -/
def State.n (s : State) : Nat := s.config.n.getD 0

/-- A configured slot: a position from 1 to N (00_scope, "Phases and slots"). -/
def State.configured (s : State) (i : Slot) : Bool := decide (slotPosition i ≤ s.n)

/-- A candidate's state: ACTIVE or PARKED. The codes of exactly these slots are sampled (section 1.2). -/
def SlotState.candidate (x : SlotState) : Bool := decide (x = .active) || decide (x = .parked)

/-- The number of slots of a phase whose state satisfies `p`. -/
def State.countPhase (s : State) (p : SlotState → Bool) (x : Nat) : Nat :=
  (allSlots.filter fun i => decide (slotPhase i = x) && p (s.slot i).state).length

/-- The place of a slot among the slots of its phase whose state satisfies `p`, in ascending order of
position, from 0. -/
def State.placeOf (s : State) (p : SlotState → Bool) (i : Slot) : Nat :=
  (allSlots.filter fun j =>
    decide (slotPhase j = slotPhase i) && decide (j < i) && p (s.slot j).state).length

/-- The candidate counts of the three phases (R102). -/
def State.candidates (s : State) : PlanKey :=
  { a := s.countPhase SlotState.candidate 0
    b := s.countPhase SlotState.candidate 1
    c := s.countPhase SlotState.candidate 2 }

/-- Some phase has fewer candidates than min_cells (R69, R132). -/
def State.tooFew (s : State) : Bool := decide (s.candidates.smallest < s.config.minCells)

/-- r of the committed plan, 0 while it is absent. -/
def State.ratio (s : State) : Nat :=
  match s.committed with
  | none => 0
  | some p => p.fields.r

/-- The open episode's phase. -/
def State.phase (s : State) : Option EpisodePhase := s.episode.current.map (·.phase)

/-- A slot is listed among the involved cells of the open episode (R64). -/
def State.listed (s : State) (i : Slot) : Bool :=
  match s.episode.current with
  | none => false
  | some e => e.involved.any fun v => decide (v.slot = i)

/-- The cascade is modulating (R27). -/
def State.modulating (s : State) : Bool :=
  match s.drive.state with
  | .running => true
  | .riding => decide (s.phase = some .magnetize) || decide (s.phase = some .handover)
  | _ => false

/-- The mode sent to a configured slot (R27). -/
def State.modeOf (s : State) (i : Slot) : Mode :=
  if s.modulating then
    match (s.slot i).state with
    | .active => .run
    | .parked => .zero
    | _ => .block
  else .block

/-- An urgent notice (R159). -/
def NoticeBody.urgent : NoticeBody → Bool
  | .episodeOpened .. => true
  | .episodeClosed .. => true
  | .driveState new _ => decide (new = .halted)
  | _ => false

/-- A notice's kind is enabled in the mask (R160). -/
def NoticeQueue.enabled (q : NoticeQueue) (b : NoticeBody) : Bool := q.mask.getLsbD (noticeKind b - 1)

/-- ATTN's level for a queue (R162). -/
def NoticeQueue.attn (q : NoticeQueue) : Bool :=
  decide (q.threshold ≤ q.items.length) || q.items.any (·.body.urgent)

/-- At least `length` microseconds of part time have elapsed since `start`, counted modulo 2^32 (R66). -/
def elapsed (start : PartTime) (length : Nat) (now : PartTime) : Bool := decide (length ≤ (now - start).toNat)

/-- A timer's time has been reached: the part time elapsed since its start is at least its length (R66,
R139). -/
def Timer.due (t : Timer) (now : PartTime) : Bool := elapsed t.start t.length now

/-- A pulse operation's time has been reached (R5). -/
def PulseOp.due (p : PulseOp) (now : PartTime) : Bool := elapsed p.asserted (1000 * p.timeout) now

/-- A gate's end has been reached (R110). -/
def Gate.due (g : Gate) (now : PartTime) : Bool := elapsed g.start (1000 * g.length) now

/-- The recharge condition (R70): every candidate has echoed the current generation and every ACTIVE
slot's last bus voltage is at or above V_release. -/
def State.recharged (s : State) : Bool :=
  allSlots.all fun i =>
    let r := s.slot i
    (!r.state.candidate || decide (r.link.echo = s.sync.toNat)) &&
      (!decide (r.state = .active) || decide (s.config.vRelease ≤ r.link.bus))

/-- The overspeed guard's condition (R113). -/
def State.overspeed (s : State) (r : SpeedResult) : Bool := decide (s.config.fOver < r.f.natAbs)

/-- The runaway guard's condition in an open episode (R114). -/
def State.runaway (s : State) (e : EpisodeRecord) (r : SpeedResult) : Bool :=
  decide (e.phase ≠ .handover) && decide (e.fTrip.natAbs + s.config.runaway < r.f.natAbs)

/-- BRK_DEMAND's level for a drive state (R130). -/
def DriveState.brakes (d : DriveState) : Bool := decide (d = .unconfigured) || decide (d = .halted)

end Sys2Proof.Machine
end

