-- ==== Sys2Proof/Machine/Ops.lean ====
section
/-! DEFINITION. The shared operations over the state: commands outside a device reset, part time, slot
records, notices, a slot's change of state, and the bypass and return starts. -/

namespace Sys2Proof.Machine

/-- A command's outcome: its effect, or nothing while a device reset lasts, since every block stands at its
reset values through the reset (R128, R155, R179). -/
def live (f : State → State) (s : State) : Host.Outcome State Fault Refusal :=
  .next (if s.inReset then s else f s)

/-- Part time at least `length` microseconds after `start`, for what comes every 100 µs: it moves up to
that moment if the moment has not been reached, and stands otherwise (log entry 4). -/
def State.reach (start : PartTime) (length : Nat) (s : State) : State :=
  if (s.partTime - start).toNat < length then
    { s with partTime := start + BitVec.ofNat 32 length }
  else s

/-- A timer started now with a length in milliseconds (R66, R139). -/
def State.timer (s : State) (milliseconds : Nat) : Timer :=
  { start := s.partTime, length := 1000 * milliseconds }

/-- A slot's record replaced. -/
def State.setSlot (i : Slot) (r : SlotRecord) (s : State) : State :=
  { s with slots := s.slots.set i r }

/-- An external line's record replaced. -/
def State.setLine (l : ExtLine) (r : LineRecord) (s : State) : State :=
  { s with extLines := s.extLines.set l r }

/-- Every slot's record replaced by a function of the slot and its record. -/
def State.mapSlots (f : Slot → SlotRecord → SlotRecord) (s : State) : State :=
  { s with slots := Vector.ofFn fun i => f i s.slots[i] }

/-- An operation on every slot in slot order. -/
def State.eachSlot (f : Slot → State → State) (s : State) : State :=
  allSlots.foldl (fun t i => f i t) s

/-- ATTN set to the level the queue calls for (R162). -/
def State.updateAttn (s : State) : State :=
  { s with outputs := { s.outputs with attn := s.notices.attn } }

/-- A notice offered to the notice queue (R160): lost to the mask, queued at the tail, or lost to a full
queue and counted. -/
def State.offer (b : NoticeBody) (s : State) : State :=
  if s.notices.enabled b then
    if s.notices.items.length < Config.noticeCapacity then
      State.updateAttn { s with notices := { s.notices with
        items := s.notices.items ++ [{ time := s.partTime, body := b }] } }
    else { s with notices := { s.notices with overflow := bump 255 s.notices.overflow } }
  else s

/-- The pulse lines and the pulse operation of a slot that enters a state (R4, R5): CLOSE exactly in
BYPASSING, OPEN exactly in RETURNING. -/
def Contactor.driven (c : Contactor) (new : SlotState) (now : PartTime) (timeout : Nat) : Contactor :=
  { c with
    closeLine := decide (new = .bypassing)
    openLine := decide (new = .returning)
    pulse :=
      match new with
      | .bypassing => some { kind := .close, asserted := now, timeout := timeout,
                             judge := decide (c.feedback = .closed) }
      | .returning => some { kind := .opening, asserted := now, timeout := timeout,
                             judge := decide (c.feedback = .opened) }
      | _ => none }

/-- A slot record after it enters a state: its pending fault is discarded when it leaves ACTIVE or PARKED
for another state (R21), its carrier offset is absent outside ACTIVE (R22). -/
def SlotRecord.entered (r : SlotRecord) (new : SlotState) (now : PartTime) (timeout : Nat) : SlotRecord :=
  { r with
    state := new
    fault := if r.state.candidate && !new.candidate then { r.fault with pending := none } else r.fault
    offset := if new = .active then r.offset else none
    contactor := r.contactor.driven new now timeout }

/-- An involved entry follows its slot while the episode is open (R64). -/
def InvolvedEntry.follow (v : InvolvedEntry) (i : Slot) (r : SlotRecord) : InvolvedEntry :=
  if v.slot = i then
    match r.state with
    | .bypassed => { v with outcome := .bypassed, closeTime := r.contactor.lastClose }
    | .stuck => { v with outcome := .stuck }
    | _ => v
  else v

/-- The open episode's entry of a slot follows the slot (R64). -/
def State.followEntry (i : Slot) (s : State) : State :=
  match s.episode.current with
  | none => s
  | some e =>
    { s with episode := { s.episode with
        current := some { e with involved := e.involved.map fun v => v.follow i (s.slot i) } } }

/-- A configured slot changes state, with its CELL_STATE notice (R23, R24). -/
def State.enterState (i : Slot) (new : SlotState) (cause : Code) (s : State) : State :=
  let r := s.slot i
  ((s.setSlot i (r.entered new s.partTime s.config.bypassTimeout)).followEntry i).offer
    (.cellState i r.state new cause)

/-- The cause code of a bypass that starts from FAULTED: the last qualified fault's code (R23). -/
def SlotRecord.faultCause (r : SlotRecord) : Code :=
  match r.fault.last with
  | none => 0
  | some q => q.code

/-- The bypass of a FAULTED slot starts (R6, R7). -/
def State.startFaulted (i : Slot) (s : State) : State :=
  s.enterState i .bypassing (s.slot i).faultCause

/-- The bypasses of every FAULTED slot that satisfies `p` start together, in slot order (R7). -/
def State.startAllFaulted (p : Slot → Bool) (s : State) : State :=
  s.eachSlot fun i t =>
    if (t.slot i).state = .faulted ∧ p i = true then t.startFaulted i else t

end Sys2Proof.Machine
end

