-- ==== Sys2Proof/Machine/Operands.lean ====
section
/-! DEFINITION. The operand forms of the requests: kinds, field ids and sizes, the items of a payload and
the order of their checks (R152, R153, R176, R177). -/

namespace Sys2Proof.Machine

/-- The request kinds a block serves (12, section 12.1). -/
inductive RequestKind where
  | configure
  | readConfig
  | start
  | stop
  | clearHalt
  | reference
  | bypassCell
  | returnCell
  | readCell
  | readCells
  | routeSet
  | routeRead
  | extSet
  | planPut
  | planDrop
  | planList
  | planClear
  | readEpisode
  | takeNotices
  | noticeMask
  | readStatus
  | linkReset
  deriving DecidableEq, Repr

/-- A kind's byte. -/
def RequestKind.byte : RequestKind → Byte
  | .configure => 0x01
  | .readConfig => 0x02
  | .start => 0x03
  | .stop => 0x04
  | .clearHalt => 0x05
  | .reference => 0x06
  | .bypassCell => 0x07
  | .returnCell => 0x08
  | .readCell => 0x09
  | .readCells => 0x0A
  | .routeSet => 0x0B
  | .routeRead => 0x0C
  | .extSet => 0x0D
  | .planPut => 0x0E
  | .planDrop => 0x0F
  | .planList => 0x10
  | .planClear => 0x11
  | .readEpisode => 0x12
  | .takeNotices => 0x13
  | .noticeMask => 0x14
  | .readStatus => 0x15
  | .linkReset => 0x16

/-- The kinds in the order of their bytes. -/
def allKinds : List RequestKind :=
  [.configure, .readConfig, .start, .stop, .clearHalt, .reference, .bypassCell, .returnCell, .readCell,
   .readCells, .routeSet, .routeRead, .extSet, .planPut, .planDrop, .planList, .planClear, .readEpisode,
   .takeNotices, .noticeMask, .readStatus, .linkReset]

/-- The kind a byte names, if a block serves it. -/
def kindOf (b : Byte) : Option RequestKind := allKinds.find? fun k => decide (k.byte = b)

/-- The bytes of a kind's field, absent for an id the kind does not carry (12, "Request fields"). -/
def fieldSize (k : RequestKind) (id : Nat) : Option Nat :=
  match k with
  | .configure => if 1 ≤ id ∧ id ≤ 21 then some 2 else none
  | .reference => if id = 1 ∨ id = 2 then some 2 else none
  | .bypassCell => if id = 1 then some 1 else none
  | .returnCell => if id = 1 then some 1 else none
  | .readCell => if id = 1 then some 1 else none
  | .routeSet => if id = 3 ∨ id = 4 then some 2 else if 1 ≤ id ∧ id ≤ 7 then some 1 else none
  | .routeRead => if id = 1 then some 1 else none
  | .extSet => if 1 ≤ id ∧ id ≤ 3 then some 1 else none
  | .planPut => if 1 ≤ id ∧ id ≤ 3 then some 1 else if 4 ≤ id ∧ id ≤ 6 then some 2 else none
  | .planDrop => if 1 ≤ id ∧ id ≤ 3 then some 1 else none
  | .planList => if id = 1 then some 1 else none
  | .readEpisode => if id = 1 then some 1 else none
  | .takeNotices => if id = 1 then some 1 else none
  | .noticeMask => if 1 ≤ id ∧ id ≤ 3 then some 1 else none
  | _ => none

/-- The fields of a request: their ids and their unsigned values. -/
abbrev Items := List (Nat × Nat)

/-- A field's value, if its item is there. -/
def field (q : Items) (id : Nat) : Option Nat := (q.find? fun x => decide (x.1 = id)).map (·.2)

/-- A field's value where the checks have found it there. -/
def fieldD (q : Items) (id : Nat) : Nat := (field q id).getD 0

/-- The items of a payload, or none where R152 and R177 refuse it with LENGTH: an item that ends beyond the
payload, an id the kind does not carry, an id twice. The first argument bounds the number of items. -/
def parseItems (k : RequestKind) : Nat → List Byte → Option Items
  | _, [] => some []
  | 0, _ :: _ => none
  | n + 1, id :: rest =>
    match fieldSize k id.toNat with
    | none => none
    | some size =>
      if rest.length < size then none
      else
        match parseItems k n (rest.drop size) with
        | none => none
        | some q =>
          if (field q id.toNat).isSome then none
          else some ((id.toNat, valueOf (rest.take size)) :: q)

/-- The items of a request's payload. -/
def itemsOf (k : RequestKind) (payload : List Byte) : Option Items :=
  parseItems k payload.length payload

/-- The first field of a list of ids that is absent. -/
def firstAbsent (q : Items) (ids : List Nat) : Option Nat := ids.find? fun id => (field q id).isNone

/-- A field that is absent, or present with a value that satisfies `p`. -/
def fieldOk (q : Items) (id : Nat) (p : Nat → Bool) : Bool :=
  match field q id with
  | none => true
  | some v => p v

/-- The first check of a list that fails, with the refusal it gives. -/
def firstRefusal (checks : List (Bool × RefusalCause)) : Option RefusalCause :=
  (checks.find? fun c => !c.1).map (·.2)

/-- The slot a request's slot field names (R17). -/
def slotField (q : Items) : Option Slot := (field q 1).bind slotOfByte

/-- A request's service: refused, which changes nothing, or carried out (R153). -/
def serveWith (refusal : Option RefusalCause) (after : State) (reply : List Byte) (s : State) :
    State × Answer :=
  match refusal with
  | some c => (s, .refused c)
  | none => (after, .ok reply)

end Sys2Proof.Machine
end

