-- ==== Sys2Proof/Machine/Plans.lean ====
section
/-! DEFINITION. The plan store (05): the plan table's edits, the commit with its lookup and fallback
(R102 to R106), and the requests PLAN_PUT, PLAN_DROP, PLAN_CLEAR and PLAN_LIST. -/

namespace Sys2Proof.Machine

/-- An entry inserted at its place in key order, or replacing the entry of its key (R97). -/
def insertEntry (e : PlanEntry) : List PlanEntry → List PlanEntry
  | [] => [e]
  | x :: xs =>
    if e.key = x.key then e :: xs
    else if e.key.before x.key then e :: x :: xs
    else x :: insertEntry e xs

/-- The table's entry with a key (R102). -/
def State.planFor (s : State) (k : PlanKey) : Option PlanEntry :=
  s.plans.find? fun e => decide (e.key = k)

/-! ## The commit -/

/-- The state a commit gives a candidate (R103, R104): on a hit ACTIVE; on a miss ACTIVE for the `m`
lowest candidates of its phase, PARKED above them. -/
def State.commitTarget (s : State) (i : Slot) : SlotState :=
  match s.planFor s.candidates with
  | some _ => .active
  | none =>
    if s.placeOf SlotState.candidate i < s.candidates.smallest then .active else .parked

/-- The committed plan a commit forms (R103, R104, R106). -/
def State.commitPlan (s : State) : CommittedPlan :=
  let k := s.candidates
  { period := s.config.period
    fields :=
      match s.planFor k with
      | some e =>
        { counts := k, lagB := e.lagB, lagC := e.lagC, r := e.r, source := .table k, parked := [] }
      | none =>
        let m := k.smallest
        { counts := { a := m, b := m, c := m }
          lagB := 1200
          lagC := 2400
          r := ratioFloor m s.n
          source := .fallback
          parked := allSlots.filter fun i =>
            (s.slot i).state.candidate && decide (s.commitTarget i = .parked) } }

/-- A candidate set to the state the commit gives it, with its notice if the state changes (R105). -/
def settleCandidate (target : SlotState) (i : Slot) (t : State) : State :=
  if (t.slot i).state.candidate ∧ (t.slot i).state ≠ target then t.enterState i target 0 else t

/-- The carrier offsets of a commit written into the slot records: each ACTIVE slot's own, none for every
other slot (R22, R125). -/
def State.writeOffsets (s : State) : State :=
  s.mapSlots fun i r =>
    { r with offset :=
        if r.state = .active then
          some (carrierOffset (slotPhase i) (s.countPhase (fun x => decide (x = .active)) (slotPhase i))
            (s.placeOf (fun x => decide (x = .active)) i) s.config.period)
        else none }

/-- A commit, one step of the plan store (R102). -/
def State.commit (s : State) : State :=
  let settled := s.eachSlot fun i t => settleCandidate (s.commitTarget i) i t
  let written := State.writeOffsets { settled with committed := some s.commitPlan }
  { written with sync := s.sync + 1 }

/-! ## The requests -/

/-- The key a request carries in its fields 1, 2 and 3. -/
def keyField (q : Items) : PlanKey := { a := fieldD q 1, b := fieldD q 2, c := fieldD q 3 }

/-- A count field lies in 1 to `n`. -/
def countOk (n : Nat) (v : Nat) : Bool := decide (1 ≤ v) && decide (v ≤ n)

/-- PLAN_PUT's refusal (R96). -/
def refusePlanPut (q : Items) (s : State) : Option RefusalCause :=
  if ¬(s.drive.state = .stopped ∨ s.drive.state = .running ∨ s.drive.state = .halted) then some .state
  else
    match firstAbsent q [1, 2, 3, 4, 5, 6] with
    | some id => some (.missing id)
    | none => firstRefusal
        [(countOk s.n (fieldD q 1), .range 1), (countOk s.n (fieldD q 2), .range 2),
         (countOk s.n (fieldD q 3), .range 3), (decide (fieldD q 4 ≤ 3599), .range 4),
         (decide (fieldD q 5 ≤ 3599), .range 5),
         (decide (ratioFloor (keyField q).smallest s.n ≤ fieldD q 6) && decide (fieldD q 6 ≤ 1000),
          .range 6),
         (decide (s.plans.length < Config.planCapacity) || (s.planFor (keyField q)).isSome, .full)]

/-- The entry a PLAN_PUT carries. -/
def entryField (q : Items) : PlanEntry :=
  { key := keyField q, lagB := fieldD q 4, lagC := fieldD q 5, r := fieldD q 6 }

/-- PLAN_PUT (R96, R97). -/
def servePlanPut (q : Items) (s : State) : State × Answer :=
  let k := keyField q
  let t := { s with plans := insertEntry (entryField q) s.plans }
  serveWith (refusePlanPut q s) t
    (keyBytes k ++ byte1 (s.plans.filter fun e => e.key.before k).length ++
      byte1 (if (s.planFor k).isSome then 1 else 0) ++ byte1 t.plans.length) s

/-- PLAN_DROP's refusal (R98). -/
def refusePlanDrop (q : Items) (s : State) : Option RefusalCause :=
  if s.drive.state = .riding then some .state
  else
    match firstAbsent q [1, 2, 3] with
    | some id => some (.missing id)
    | none => firstRefusal
        [(countOk 9 (fieldD q 1), .range 1), (countOk 9 (fieldD q 2), .range 2),
         (countOk 9 (fieldD q 3), .range 3), ((s.planFor (keyField q)).isSome, .notFound)]

/-- PLAN_DROP (R98). -/
def servePlanDrop (q : Items) (s : State) : State × Answer :=
  let t := { s with plans := s.plans.filter fun e => decide (e.key ≠ keyField q) }
  serveWith (refusePlanDrop q s) t
    (orZeros 9 (s.planFor (keyField q)) entryBytes ++ byte1 t.plans.length) s

/-- PLAN_CLEAR (R99). -/
def servePlanClear (_q : Items) (s : State) : State × Answer :=
  serveWith (if s.drive.state = .riding then some .state else none) { s with plans := [] }
    (item 1 (byte1 s.plans.length)) s

/-- PLAN_LIST (R100). -/
def servePlanList (q : Items) (s : State) : State × Answer :=
  let shown := (s.plans.drop (fieldD q 1)).take 8
  serveWith (if fieldOk q 1 (fun v => decide (v ≤ 31)) then none else some (.range 1)) s
    (byte1 s.plans.length ++ byte1 shown.length ++ shown.flatMap entryBytes) s

end Sys2Proof.Machine
end

