-- ==== Sys2Proof/Machine/Drive.lean ====
section
/-! DEFINITION. The drive state controller's halts and departures from RUNNING (07, R65, R135, R141, R142). -/

namespace Sys2Proof.Machine

/-- The supervision timer is stopped and the reference in force becomes absent with its flags, as at every
departure from RUNNING (R136, R139). -/
def State.dropReference (s : State) : State :=
  { s with drive := { s.drive with supervision := none, reference := none } }

/-- The modulation generator's applied magnitude and applied frequency become 0. -/
def State.zeroApplied (s : State) : State := { s with mod := { s.mod with mag := 0, freq := 0 } }

/-- The drive state becomes HALTED with its cause, and BRK_DEMAND is asserted (R130, R142). -/
def State.setHalted (code : Code) (s : State) : State :=
  { s with
    drive := { s.drive with state := .halted, haltCause := some code }
    outputs := { s.outputs with brkDemand := true } }

/-- A halt asked for in STOPPED or RUNNING (R141); asked for elsewhere, it is not carried out. -/
def State.halt (code : Code) (s : State) : State :=
  match s.drive.state with
  | .running =>
    (((s.setHalted code).dropReference).zeroApplied).offer (.driveState .halted code)
  | .stopped => (s.setHalted code).offer (.driveState .halted code)
  | _ => s

end Sys2Proof.Machine
end

