-- ==== Sys2Proof/Machine/Episode.lean ====
section
/-! DEFINITION. The episode controller (04): opening, phases, listing, re-isolation, failure, close and
history, with the events of its timers and of the magnetise ramp. -/

namespace Sys2Proof.Machine

/-- The open episode record changed by a function. -/
def State.mapEpisode (f : EpisodeRecord → EpisodeRecord) (s : State) : State :=
  { s with episode := { s.episode with current := s.episode.current.map f } }

/-- The open episode's phase set. -/
def State.setPhase (p : EpisodePhase) (s : State) : State :=
  s.mapEpisode fun e => { e with phase := p }

/-- The settle, window and handover timers stopped (R66). -/
def State.stopTimers (s : State) : State :=
  { s with episode := { s.episode with settle := none, window := none, handover := none } }

/-- The ramp or hold abandoned: ramp position and applied magnitude 0, no completion handed on (R80, R89,
R119). -/
def State.abandonRamp (s : State) : State :=
  { s with mod := { s.mod with mag := 0, rampPos := 0, rampDone := false } }

/-- The open record closed with an outcome: it enters the history as entry 1 and no episode is open
(R90). -/
def State.closeRecord (o : EpisodeOutcome) (s : State) : State :=
  match s.episode.current with
  | none => s
  | some e =>
    { s with episode := { s.episode with
        current := none
        history := ({ e with outcome := some o, closed := some s.partTime } :: s.episode.history).take
          Config.historyCapacity } }

/-- RIDE_ACTIVE set (R131). -/
def State.setRide (b : Bool) (s : State) : State :=
  { s with outputs := { s.outputs with rideActive := b } }

/-- The failure path of the open episode (R89). -/
def State.failEpisode (cause : FailureCause) (code : Code) (s : State) : State :=
  match s.episode.current with
  | none => s
  | some e =>
    let t := s.stopTimers.abandonRamp
    let t := t.offer (.episodeClosed e.number (some cause))
    let t := t.closeRecord (.failed cause code)
    let t := (t.setHalted code).setRide false
    let t := t.offer (.driveState .halted code)
    t.startAllFaulted fun _ => true

/-! ## Phases -/

/-- Entry to PLAN: the minimum count check, then the commit and entry to RECHARGE, in one step (R69). -/
def State.enterPlan (s : State) : State :=
  let t := s.setPhase .plan
  if t.tooFew then t.failEpisode .insufficientCells 0x6002
  else
    let c := t.commit
    c.mapEpisode fun e => { e with plan := c.committed.map (·.fields), phase := .recharge }

/-- In BYPASS, the check whether every entry of the list has outcome BYPASSED (R68). -/
def State.checkBypass (s : State) : State :=
  match s.episode.current with
  | none => s
  | some e =>
    if e.phase = .bypass ∧ e.involved.all (fun v => decide (v.outcome = .bypassed)) = true then
      s.enterPlan
    else s

/-- Entry to BYPASS: every listed slot that is FAULTED starts its bypass (R67, R68). -/
def State.enterBypass (s : State) : State :=
  let t := s.setPhase .bypass
  let t := { t with episode := { t.episode with settle := none } }
  (t.startAllFaulted fun i => t.listed i).checkBypass

/-- Entry to ISOLATE: the settle timer starts, or with a settle length of 0 the episode enters BYPASS in
the same step (R65, R67, R80). -/
def State.enterIsolate (s : State) : State :=
  let t := s.setPhase .isolate
  if t.config.settle = 0 then t.enterBypass
  else { t with episode := { t.episode with settle := some (t.timer t.config.settle) } }

/-! ## Opening and second faults -/

/-- The number of the next episode (R63). -/
def nextNumber (counter : Nat) : Nat := if counter = 65535 then 1 else counter + 1

/-- A new involved entry (R64). -/
def newEntry (i : Slot) (code : Code) (route : Nat) : InvolvedEntry :=
  { slot := i, code := code, route := route, closeTime := none, outcome := .pending }

/-- The record of an episode that opens now (R65). -/
def State.newEpisode (s : State) (i : Slot) (code : Code) (route : Nat) : EpisodeRecord :=
  { number := nextNumber s.episode.counter
    opened := s.partTime
    phase := .isolate
    fTrip := s.speed.last.f
    involved := [newEntry i code route]
    reisolations := 0
    plan := none
    capture := none
    outcome := none
    closed := none }

/-- The opening's changes of state, before its notice (R65, steps 1 to 5 but for the settle timer). -/
def State.beginEpisode (i : Slot) (code : Code) (route : Nat) (s : State) : State :=
  let t := s.dropReference.setRide true
  { t with
    drive := { t.drive with state := .riding }
    episode := { t.episode with
      current := some (s.newEpisode i code route)
      counter := nextNumber s.episode.counter
      window := some (s.timer s.config.window) }
    mod := { t.mod with mag := 0 } }

/-- The opening of an episode by a RIDE qualification taken in RUNNING (R65). -/
def State.openEpisode (i : Slot) (code : Code) (route : Nat) (s : State) : State :=
  let e := s.newEpisode i code route
  ((s.beginEpisode i code route).offer (.episodeOpened e.number i code e.fTrip)).enterIsolate

/-- A slot listed at the end of the involved list with outcome PENDING (R64). -/
def State.listSlot (i : Slot) (code : Code) (route : Nat) (s : State) : State :=
  s.mapEpisode fun e => { e with involved := e.involved ++ [newEntry i code route] }

/-- A re-isolation, after the slot is listed (R80, R81). -/
def State.reisolate (s : State) : State :=
  let fromHandover := decide (s.phase = some .handover)
  let t := s.abandonRamp.mapEpisode fun e =>
    { e with reisolations := bump 255 e.reisolations, capture := none }
  let t :=
    if fromHandover then
      { t with episode := { t.episode with handover := none, window := some (t.timer t.config.window) } }
    else t
  t.enterIsolate

/-- A RIDE qualification offered to the open episode, the slot having entered FAULTED (R77 to R83). -/
def State.offerToEpisode (i : Slot) (code : Code) (route : Nat) (s : State) : State :=
  match s.episode.current with
  | none => s
  | some e =>
    if s.config.fMax ≤ e.involved.length then s.failEpisode .tooManyFaults 0x6003
    else
      let t := s.listSlot i code route
      match e.phase with
      | .isolate => t
      | .bypass => t.startFaulted i
      | .plan => (t.startFaulted i).setPhase .bypass
      | .recharge => (t.startFaulted i).setPhase .bypass
      | .capture => (t.startFaulted i).setPhase .bypass
      | .magnetize => t.reisolate
      | .handover => t.reisolate

/-! ## The recharge check, the capture and the close -/

/-- The check of the recharge condition, made in RECHARGE alone at each good frame (R70). -/
def State.rechargeCheck (s : State) : State :=
  if s.phase = some .recharge ∧ s.recharged = true then s.setPhase .capture else s

/-- The capture of a gate result, and entry to MAGNETIZE (R71, R117). -/
def State.capture (r : SpeedResult) (s : State) : State :=
  let c := captureFrom r.f s.config s.ratio
  let t := s.mapEpisode fun e => { e with capture := some c, phase := .magnetize }
  { t with mod := { t.mod with theta := 0, rampPos := 0, freq := c.fr, rampDone := false } }

/-- The RESTORED close by a REFERENCE accepted in HANDOVER (R75). -/
def State.closeRestored (ref : Reference) (s : State) : State :=
  match s.episode.current with
  | none => s
  | some e =>
    let t := s.stopTimers
    let t := t.offer (.episodeClosed e.number none)
    let t := (t.closeRecord .restored).setRide false
    let t := { t with
      drive := { t.drive with
        state := .running
        reference := some ref
        supervision := some (t.timer t.config.supervision) }
      mod := { t.mod with mag := ref.mag, freq := ref.freq, rampPos := 0, rampDone := false } }
    t.startAllFaulted fun _ => true

/-! ## The events -/

/-- The ramp's completion taken (R73): in MAGNETIZE, once the modulation generator has handed it on. -/
def State.rampCompletion (s : State) : State :=
  match s.episode.current with
  | none => s
  | some e =>
    if e.phase = .magnetize ∧ s.mod.rampDone = true then
      match e.capture with
      | none => s
      | some c =>
        let t := { s with
          episode := { s.episode with window := none, handover := some (s.timer s.config.handover) }
          mod := { s.mod with rampDone := false } }
        (t.offer (.restartReady e.number c.fr c.ut s.ratio c.fCeil c.reduced)).setPhase .handover
    else s

/-- RAMP_COMPLETION (R73, R74). -/
def execRampCompletion (s : State) : Host.Outcome State Fault Refusal := live State.rampCompletion s

/-- The settle timer's expiry, if its time has been reached (R66, R67). -/
def State.settleExpiry (s : State) : State :=
  match s.episode.settle with
  | none => s
  | some t =>
    if t.due s.partTime then
      let u := { s with episode := { s.episode with settle := none } }
      if u.phase = some .isolate then u.enterBypass else u
    else s

/-- SETTLE_EXPIRY (R67). -/
def execSettleExpiry (s : State) : Host.Outcome State Fault Refusal := live State.settleExpiry s

/-- The window timer's expiry, if its time has been reached (R66, R85). -/
def State.windowExpiry (s : State) : State :=
  match s.episode.window with
  | none => s
  | some t =>
    if t.due s.partTime then
      { s with episode := { s.episode with window := none } }.failEpisode .window 0x6001
    else s

/-- WINDOW_EXPIRY (R85). -/
def execWindowExpiry (s : State) : Host.Outcome State Fault Refusal := live State.windowExpiry s

/-- The handover timer's expiry, if its time has been reached (R66, R76). -/
def State.handoverExpiry (s : State) : State :=
  match s.episode.handover with
  | none => s
  | some t =>
    if t.due s.partTime then
      { s with episode := { s.episode with handover := none } }.failEpisode .handoverTimeout 0x6004
    else s

/-- HANDOVER_EXPIRY (R76). -/
def execHandoverExpiry (s : State) : Host.Outcome State Fault Refusal := live State.handoverExpiry s

/-- The supervision timer's expiry, if its time has been reached: a REFERENCE taken first has restarted the
timer, and the expiry then does not happen (R139, R140). -/
def State.supervisionExpiry (s : State) : State :=
  match s.drive.supervision with
  | none => s
  | some t =>
    if t.due s.partTime then
      let u := { s with drive := { s.drive with supervision := none } }
      if u.drive.state = .running then u.halt 0x5004 else u
    else s

/-- SUPERVISION_EXPIRY (R140). -/
def execSupervisionExpiry (s : State) : Host.Outcome State Fault Refusal :=
  live State.supervisionExpiry s

end Sys2Proof.Machine
end

