-- ==== Sys2Proof/Machine/Faults.lean ====
section
/-! DEFINITION. The fault intake and router (03): presentations, routes, qualification, the actions taken,
the external trip lines, and the requests ROUTE_SET, ROUTE_READ and EXT_SET. -/

namespace Sys2Proof.Machine

/-- A source of presentations (R42). -/
inductive FaultSource where
  | slot (i : Slot)
  | line (l : ExtLine)
  deriving DecidableEq, Repr

/-- A presentation (R42). -/
inductive Presentation where
  | code (c : Code)
  | clear
  | missed
  deriving DecidableEq, Repr

/-- What the fault intake keeps for a source. -/
def State.facts (s : State) : FaultSource → FaultFacts
  | .slot i => (s.slot i).fault
  | .line l => (s.line l).fault

/-- A source's facts replaced. -/
def State.setFacts (src : FaultSource) (f : FaultFacts) (s : State) : State :=
  match src with
  | .slot i => s.setSlot i { s.slot i with fault := f }
  | .line l => s.setLine l { s.line l with fault := f }

/-- The source a FAULT_NOTED notice names. -/
def FaultSource.note : FaultSource → NoteSource
  | .slot i => .slot i
  | .line l => .line l

/-- A code hits a window (R47). -/
def RouteWindow.hits (w : RouteWindow) (c : Code) : Bool := w.enabled && decide (c &&& w.mask = w.value)

/-- The indices of the route windows, ascending. -/
def allWindows : List (Fin 8) := [0, 1, 2, 3, 4, 5, 6, 7]

/-- The route of a code: the first enabled window it hits, or the default route, index 8, HALT and
LATCHED (R46, R47). The record it gives starts at `now` with a count of 1 (R50). -/
def State.routeFor (s : State) (c : Code) (now : PartTime) : PendingFault :=
  match allWindows.find? fun k => (s.windows[k]).hits c with
  | some k =>
    let w := s.windows[k]
    { code := c, route := k.val, kind := w.kind, action := w.action, q := w.q, count := 1, firstSeen := now }
  | none =>
    { code := c, route := 8, kind := .latched, action := .halt, q := 1, count := 1, firstSeen := now }

/-- A pending record meets the requirement of its route (R50, R51, R52). -/
def PendingFault.qualifies (p : PendingFault) : Bool :=
  decide (p.kind = .latched) || decide (p.q ≤ p.count)

/-- The action taken by a qualification: RIDE of an external line's code acts as HALT (R57). -/
def FaultSource.taken (src : FaultSource) (a : Action) : Action :=
  match src, a with
  | .line _, .ride => .halt
  | _, a => a

/-! ## Actions (section 3.5) -/

/-- A NOTE qualification (R55). -/
def State.noteAction (src : FaultSource) (p : PendingFault) (s : State) : State :=
  let f := s.facts src
  let t := s.setFacts src { f with noted := some p.code }
  if f.noted = some p.code then t else t.offer (.faultNoted src.note p.code (some p.route))

/-- A RIDE qualification of a cell's code (R56). -/
def State.rideAction (i : Slot) (p : PendingFault) (s : State) : State :=
  let t := s.enterState i .faulted p.code
  match t.drive.state with
  | .unconfigured => t
  | .stopped => t.startFaulted i
  | .halted => t.startFaulted i
  | .running => t.openEpisode i p.code p.route
  | .riding => t.offerToEpisode i p.code p.route

/-- A HALT qualification (R58). -/
def State.haltAction (code : Code) (s : State) : State :=
  match s.drive.state with
  | .riding => s.failEpisode .haltFault code
  | .stopped => s.halt code
  | .running => s.halt code
  | _ => s

/-- The action of a qualification carried out. -/
def State.act (src : FaultSource) (p : PendingFault) (s : State) : State :=
  match src.taken p.action, src with
  | .ignore, _ => s
  | .note, _ => s.noteAction src p
  | .ride, .slot i => s.rideAction i p
  | .ride, .line _ => s.haltAction p.code
  | .halt, _ => s.haltAction p.code

/-- A qualification (R54): the pending record is removed, the last qualified fault and the count are
written, and the action is taken. -/
def State.qualify (src : FaultSource) (p : PendingFault) (s : State) : State :=
  let f := s.facts src
  (s.setFacts src { f with
      pending := none
      last := some { code := p.code, action := src.taken p.action, time := s.partTime }
      count := bump 255 f.count }).act src p

/-- A pending record kept, or qualified if it meets its route (R50). -/
def State.settlePending (src : FaultSource) (p : PendingFault) (s : State) : State :=
  if p.qualifies then s.qualify src p
  else s.setFacts src { s.facts src with pending := some p }

/-- The first sight of a code (R50): an IGNORE route leaves the source with no pending record. -/
def State.firstSight (src : FaultSource) (c : Code) (s : State) : State :=
  let p := s.routeFor c s.partTime
  if p.action = .ignore then s.setFacts src { s.facts src with pending := none }
  else s.settlePending src p

/-- A presentation taken for a source (R50, R51, R55). -/
def State.present (src : FaultSource) (x : Presentation) (s : State) : State :=
  let f := s.facts src
  match x with
  | .missed => s.setFacts src { f with pending := none }
  | .clear => s.setFacts src { f with pending := none, noted := none }
  | .code c =>
    match f.pending with
    | some p => if p.code = c then s.settlePending src { p with count := p.count + 1 } else s.firstSight src c
    | none => s.firstSight src c

/-! ## External trip lines -/

/-- The code of an external line: 0x3000 plus its number (section 3.1). -/
def lineCode (l : ExtLine) : Code := 0x3000 + BitVec.ofNat 16 l.val

/-- A line's input level counts as the trip (R43). -/
def LineRecord.trips (r : LineRecord) (high : Bool) : Bool :=
  match r.polarity with
  | .activeHigh => high
  | .activeLow => !high

/-- An external line's input lies between the levels of section 12.3, where the manual gives no reading. -/
def levelOpen (millivolts : Nat) : Bool := decide (800 < millivolts) && decide (millivolts < 2000)

/-- What an external line's input reads, true for high: high at 2.0 V or above, low at 0.8 V or below
(section 12.3, R179), and a free value between (log entry 23). -/
def State.lineHigh (millivolts : Nat) (s : State) : Bool :=
  if levelOpen millivolts then Config.levelBetween millivolts s.freeReadings else decide (2000 ≤ millivolts)

/-- The count of free readings after an external line's input has been read (log entry 23). -/
def State.countReading (millivolts : Nat) (s : State) : State :=
  { s with freeReadings := if levelOpen millivolts then s.freeReadings + 1 else s.freeReadings }

/-- The sample of an external line (R43): taken from the first CONFIGURE on, if the line is enabled, and judged
by the level read (R179). -/
def State.extLineSample (l : ExtLine) (millivolts : Nat) (s : State) : State :=
  if s.config.n = none ∨ (s.line l).enable = false then s
  else
    let t := s.reach (s.line l).sampledAt 100
    let t := (t.setLine l { t.line l with sampledAt := t.partTime }).countReading millivolts
    t.present (.line l) (if (t.line l).trips (s.lineHigh millivolts) then .code (lineCode l) else .clear)

/-- EXT_LINE_SAMPLE (R43). -/
def execExtLineSample (line : ExtLine) (millivolts : Nat) (s : State) :
    Host.Outcome State Fault Refusal :=
  live (State.extLineSample line millivolts) s

/-- The line a request's line field names. -/
def lineField (q : Items) : Option ExtLine :=
  if h : fieldD q 1 < 4 then some ⟨fieldD q 1, h⟩ else none

/-- EXT_SET's refusal (R44). -/
def refuseExtSet (q : Items) (s : State) : Option RefusalCause :=
  if s.drive.state = .riding then some .state
  else
    match firstAbsent q [1] with
    | some id => some (.missing id)
    | none => firstRefusal
        [((lineField q).isSome, .range 1), (fieldOk q 2 (fun v => (flagOf v).isSome), .range 2),
         (fieldOk q 3 (fun v => (polarityOf v).isSome), .range 3)]

/-- A line record after EXT_SET (R44): disabling an enabled line discards its pending record and clears
its noted code. -/
def LineRecord.setBy (q : Items) (r : LineRecord) : LineRecord :=
  let enable := ((field q 2).bind flagOf).getD r.enable
  let polarity := ((field q 3).bind polarityOf).getD r.polarity
  { r with
    enable := enable
    polarity := polarity
    fault :=
      if r.enable = true ∧ enable = false then { r.fault with pending := none, noted := none }
      else r.fault }

/-- EXT_SET (R44). Its reply carries the line's settings. -/
def serveExtSet (q : Items) (s : State) : State × Answer :=
  match lineField q with
  | none => serveWith (refuseExtSet q s) s [] s
  | some l =>
    let r := (s.line l).setBy q
    serveWith (refuseExtSet q s) (s.setLine l r)
      (item 1 (byte1 (flagBit 0 r.enable)) ++ item 2 (byte1 (polarityCode r.polarity))) s

/-! ## Route windows -/

/-- The window a request's index field names. -/
def windowField (q : Items) : Option (Fin 8) :=
  if h : fieldD q 1 < 8 then some ⟨fieldD q 1, h⟩ else none

/-- The window a ROUTE_SET carries. -/
def windowOf (q : Items) : RouteWindow :=
  { enabled := (flagOf (fieldD q 2)).getD false
    value := BitVec.ofNat 16 (fieldD q 3)
    mask := BitVec.ofNat 16 (fieldD q 4)
    action := (actionOf (fieldD q 5)).getD .ignore
    kind := (routeKindOf (fieldD q 6)).getD .level
    q := fieldD q 7 }

/-- A qualification count R46 allows. -/
def qAllowed (v : Nat) : Bool := [1, 2, 4, 8, 16].contains v

/-- ROUTE_SET's refusal (R48). -/
def refuseRouteSet (q : Items) (s : State) : Option RefusalCause :=
  if s.drive.state = .riding then some .state
  else
    match firstAbsent q [1, 2, 3, 4, 5, 6, 7] with
    | some id => some (.missing id)
    | none => firstRefusal
        [((windowField q).isSome, .range 1), ((flagOf (fieldD q 2)).isSome, .range 2),
         ((actionOf (fieldD q 5)).isSome, .range 5), ((routeKindOf (fieldD q 6)).isSome, .range 6),
         (qAllowed (fieldD q 7), .range 7),
         (decide ((windowOf q).value &&& ~~~(windowOf q).mask = 0), .invalid)]

/-- The six fields of a window as items (R48; log entry 13). -/
def windowItems (w : RouteWindow) : List Byte :=
  item 1 (byte1 (flagBit 0 w.enabled)) ++ item 2 (byte2Of w.value) ++ item 3 (byte2Of w.mask) ++
    item 4 (byte1 (actionCode w.action)) ++ item 5 (byte1 (routeKindCode w.kind)) ++ item 6 (byte1 w.q)

/-- ROUTE_SET (R48): the window is replaced; no standing pending record changes (R53). -/
def serveRouteSet (q : Items) (s : State) : State × Answer :=
  match windowField q with
  | none => serveWith (refuseRouteSet q s) s [] s
  | some k =>
    serveWith (refuseRouteSet q s) { s with windows := s.windows.set k (windowOf q) }
      (windowItems (windowOf q)) s

/-- ROUTE_READ's reply for a selector, if it names a route or a line (R49). The
unnamed bits of a presence byte are sent 0 (DESIGN CHOICE: log entry 24). -/
def routeReadBytes (s : State) (sel : Nat) : Option (List Byte) :=
  if h : sel < 8 then some (byte1 sel ++ byte1 1 ++ windowBytes s.windows[sel])
  else if sel = 8 then
    some (byte1 8 ++ byte1 0 ++ byte1 0 ++ byte2 0 ++ byte2 0 ++ byte1 (actionCode .halt) ++
      byte1 (routeKindCode .latched) ++ byte1 0)
  else if h : 0x10 ≤ sel ∧ sel < 0x14 then
    some (lineBytes ⟨sel - 0x10, by omega⟩ (s.line ⟨sel - 0x10, by omega⟩))
  else none

/-- ROUTE_READ (R49). -/
def serveRouteRead (q : Items) (s : State) : State × Answer :=
  match (field q 1).bind (routeReadBytes s) with
  | none => serveWith (some (.range 1)) s [] s
  | some bytes => serveWith none s bytes s

end Sys2Proof.Machine
end

