-- ==== Sys2Proof/Machine/Bypass.lean ====
section
/-! DEFINITION. The bypass line unit and the requests on cells (01): the debounced feedback, completions,
anomalies, timeouts, and BYPASS_CELL, RETURN_CELL, READ_CELL and READ_CELLS. -/

namespace Sys2Proof.Machine

/-- The position a feedback level reads (R179). -/
def feedbackOf (high : Bool) : Feedback := if high then .closed else .opened

/-- The debounce step of a sample taken at `now` (R3). -/
def Contactor.debounce (c : Contactor) (x : Feedback) (now : PartTime) : Contactor :=
  if x = c.feedback then { c with run := 0, sampledAt := now }
  else
    let start := if c.run = 0 then now else c.runStart
    if 3 ≤ c.run + 1 then { c with feedback := x, run := 0, runStart := start, sampledAt := now }
    else { c with run := c.run + 1, runStart := start, sampledAt := now }

/-- The time from a pulse's assertion to the first sample of the run that completed, in tenths of a
millisecond; 0 if that run began before the assertion (R8, R10). -/
def pulseTime (asserted runStart now : PartTime) : Nat :=
  if (now - asserted).toNat < (now - runStart).toNat then 0 else (runStart - asserted).toNat / 100

/-- What a pulse operation's sample decides (R8, R10). -/
inductive PulseJudgement where
  | complete (time : Nat)
  | goOn
  deriving DecidableEq, Repr

/-- The judgement of a pulse operation at a sample, from the contactor before and after the debounce step.
Where the feedback already stood at the awaited position at the assertion, the first sample judges. -/
def judgePulse (p : PulseOp) (target : Feedback) (before after : Contactor) (now : PartTime) :
    PulseJudgement :=
  if p.judge then
    if after.feedback = target then .complete 0 else .goOn
  else if before.feedback ≠ after.feedback ∧ after.feedback = target then
    .complete (pulseTime p.asserted after.runStart now)
  else .goOn

/-- A bypass code acts by the drive state (R15). -/
def State.presentBypassCode (code : Code) (s : State) : State :=
  match s.drive.state with
  | .running => if code = 0x4003 then s else s.halt code
  | .riding => s.failEpisode (if code = 0x4003 then .bypassTimeout else .bypassLost) code
  | _ => s

/-- A slot enters STUCK with a bypass code, which then acts (R9, R11, R12, R14). -/
def State.stick (i : Slot) (code : Code) (s : State) : State :=
  (s.enterState i .stuck code).presentBypassCode code

/-- A bypass completes (R8); a listed slot's completion is checked by the episode (R68). -/
def State.completeBypass (i : Slot) (time : Nat) (s : State) : State :=
  let r := s.slot i
  let t := s.setSlot i { r with contactor := { r.contactor with lastClose := some time } }
  let t := t.enterState i .bypassed 0
  if t.listed i then t.checkBypass else t

/-- A return completes (R10). -/
def State.completeReturn (i : Slot) (time : Nat) (s : State) : State :=
  let r := s.slot i
  (s.setSlot i { r with contactor := { r.contactor with lastOpen := some time } }).enterState i .active 0

/-- The pulse operation goes on after a sample: only the first sample after the assertion judges a
position that stood there. -/
def State.pulseGoesOn (i : Slot) (s : State) : State :=
  let r := s.slot i
  s.setSlot i { r with contactor := { r.contactor with
    pulse := r.contactor.pulse.map fun p => { p with judge := false } } }

/-- The effect on a slot's state of a sample, from the contactor before the debounce step; the record
already holds the contactor after it (R7, R8, R10, R12, R13). -/
def State.feedbackEffect (i : Slot) (before : Contactor) (s : State) : State :=
  let r := s.slot i
  let after := r.contactor
  let became := decide (before.feedback ≠ after.feedback)
  match r.state with
  | .bypassing =>
    match after.pulse with
    | none => s
    | some p =>
      match judgePulse p .closed before after s.partTime with
      | .complete time => s.completeBypass i time
      | .goOn => s.pulseGoesOn i
  | .returning =>
    match after.pulse with
    | none => s
    | some p =>
      match judgePulse p .opened before after s.partTime with
      | .complete time => s.completeReturn i time
      | .goOn => s.pulseGoesOn i
  | .bypassed => if became && decide (after.feedback = .opened) then s.stick i 0x4001 else s
  | .active => if became && decide (after.feedback = .closed) then s.stick i 0x4002 else s
  | .parked => if became && decide (after.feedback = .closed) then s.stick i 0x4002 else s
  | .faulted => if became && decide (after.feedback = .closed) then s.stick i 0x4002 else s
  | .absent => s
  | .stuck => s

/-- The sample of a slot's feedback input (R3). -/
def State.feedbackSample (i : Slot) (high : Bool) (s : State) : State :=
  let before := (s.slot i).contactor
  let t := s.reach before.sampledAt 100
  (t.setSlot i { t.slot i with
    contactor := before.debounce (feedbackOf high) t.partTime }).feedbackEffect i before

/-- FEEDBACK_SAMPLE (R3). -/
def execFeedbackSample (slot : Slot) (high : Bool) (s : State) : Host.Outcome State Fault Refusal :=
  live (State.feedbackSample slot high) s

/-- The expiry of a pulse operation's timer in a slot that stands in `waiting`, if its time has been reached
(R5, R9, R11). -/
def State.pulseTimeout (waiting : SlotState) (i : Slot) (s : State) : State :=
  match (s.slot i).contactor.pulse with
  | none => s
  | some p =>
    if (s.slot i).state = waiting ∧ p.due s.partTime = true then s.stick i 0x4003 else s

/-- BYPASS_TIMEOUT (R9). -/
def execBypassTimeout (slot : Slot) (s : State) : Host.Outcome State Fault Refusal :=
  live (State.pulseTimeout .bypassing slot) s

/-- RETURN_OPERATION_TIMEOUT (R11). -/
def execReturnOperationTimeout (slot : Slot) (s : State) : Host.Outcome State Fault Refusal :=
  live (State.pulseTimeout .returning slot) s

/-! ## The requests -/

/-- BYPASS_CELL's refusal for a slot whose slot field has passed R17 (R18). -/
def refuseBypassCell (i : Slot) (s : State) : Option RefusalCause :=
  let x := (s.slot i).state
  firstRefusal
    [(decide (s.drive.state = .stopped) || decide (s.drive.state = .halted), .state),
     (decide (x ≠ .absent), .range 1),
     (x.candidate || decide (x = .faulted) || decide (x = .stuck), .state)]

/-- The reply of BYPASS_CELL and RETURN_CELL: the slot and its new state. -/
def cellReply (i : Slot) (x : SlotState) : List Byte :=
  item 1 (byte1 (slotByte i)) ++ item 2 (byte1 (slotStateCode x))

/-- BYPASS_CELL (R18). -/
def serveBypassCell (q : Items) (s : State) : State × Answer :=
  match slotField q with
  | none => serveWith (some (.range 1)) s [] s
  | some i => serveWith (refuseBypassCell i s) (s.enterState i .bypassing 0) (cellReply i .bypassing) s

/-- RETURN_CELL's refusal for a slot whose slot field has passed R17 (R19). -/
def refuseReturnCell (i : Slot) (s : State) : Option RefusalCause :=
  let r := s.slot i
  firstRefusal
    [(decide (s.drive.state = .stopped), .state), (decide (r.state ≠ .absent), .range 1),
     (decide (r.state = .bypassed) || decide (r.state = .stuck), .state),
     (r.link.up && decide (r.link.code = 0), .cellNotReady)]

/-- RETURN_CELL (R19, R10). -/
def serveReturnCell (q : Items) (s : State) : State × Answer :=
  match slotField q with
  | none => serveWith (some (.range 1)) s [] s
  | some i => serveWith (refuseReturnCell i s) (s.enterState i .returning 0) (cellReply i .returning) s

/-- READ_CELL (R20). -/
def serveReadCell (q : Items) (s : State) : State × Answer :=
  match slotField q with
  | none => serveWith (some (.range 1)) s [] s
  | some i => serveWith none s (cellBytes i (s.slot i)) s

/-- READ_CELLS (R20). -/
def serveReadCells (_q : Items) (s : State) : State × Answer :=
  serveWith none s (allSlots.flatMap fun i => byte1 (cellSummary (s.slot i))) s

end Sys2Proof.Machine
end

