-- ==== Sys2Proof/Machine/CellLinks.lean ====
section
/-! DEFINITION. The cell link hub (02) and the beat's work of the modulation generator (06): command frames,
status frames, link loss, the bus-low watch and the presentations. -/

namespace Sys2Proof.Machine

/-! ## The beat -/

/-- The applied magnitude and frequency of a beat (R123). -/
def State.applied (s : State) : Nat × Int :=
  match s.drive.state with
  | .running =>
    match s.drive.reference with
    | none => (0, 0)
    | some r => (r.mag, r.freq)
  | .riding =>
    match s.episode.current with
    | none => (0, 0)
    | some e =>
      match e.phase, e.capture with
      | .magnetize, some c => (rampMagnitude c.ut s.mod.rampPos (rampBeats s.config), c.fr)
      | .handover, some c => (c.ut, c.fr)
      | _, _ => (0, 0)
  | _ => (0, 0)

/-- The lag of a phase in the committed plan (R121). -/
def CommittedPlan.lag (p : CommittedPlan) (x : Nat) : Nat :=
  if x = 0 then 0 else if x = 1 then p.fields.lagB else p.fields.lagC

/-- The command frame formed for a slot from the values standing, with applied magnitude `mag` (R26, R28,
R29). -/
def State.frameFor (s : State) (mag : Nat) (i : Slot) : CommandFrame :=
  let mode := s.modeOf i
  { mode := mode
    index :=
      match s.committed with
      | none => 0
      | some p => if mode = .run then modulationIndex mag p.fields.r else 0
    angle :=
      match s.committed with
      | none => 0
      | some p => phaseAngle s.mod.theta (p.lag (slotPhase i))
    offset := (s.slot i).offset.getD 0
    period :=
      match s.committed with
      | none => s.config.period
      | some p => p.period
    generation := s.sync }

/-- A slot's link facts when a beat's command frame is sent on its link: the latch is cleared unless the
mode is RUN (R35), the window of the beat before closes, its missing answer owed if no good frame was taken in
it and its group not received whole discarded, and a new one opens (R30, R178; log entry 11). -/
def LinkFacts.sendFrame (l : LinkFacts) (f : CommandFrame) : LinkFacts :=
  { l with
    busLow := if f.mode = .run then l.busLow else false
    sent := some f
    wire := commandBytes f
    owed := l.owed + (if l.awaiting then 1 else 0)
    awaiting := true
    group := [] }

/-- The ramp runs: the episode stands in MAGNETIZE (R119). -/
def State.ramping (s : State) : Bool := decide (s.drive.state = .riding ∧ s.phase = some .magnetize)

/-- The next beat is ramp beat n, whose start hands on the ramp's completion (R119). -/
def State.rampEnds (s : State) : Bool := s.ramping && decide (rampBeats s.config ≤ s.mod.rampPos)

/-- The ramp position after a beat: in MAGNETIZE it advances up to the last ramp beat, whose start hands
the completion to the episode controller (R119). -/
def State.advanceRamp (s : State) : State :=
  if s.rampEnds then { s with mod := { s.mod with rampDone := true } }
  else if s.ramping then { s with mod := { s.mod with rampPos := s.mod.rampPos + 1 } }
  else s

/-- A beat (R25, R35, R119, R120, R123). -/
def State.beat (s : State) : State :=
  let t := s.reach s.beatAt 100
  let a := t.applied
  let u := t.mapSlots fun i r =>
    if t.configured i then { r with link := r.link.sendFrame (t.frameFor a.1 i) } else r
  let v := { u with
    beatAt := t.partTime
    mod := { u.mod with mag := a.1, freq := a.2, theta := advanceAngle u.mod.theta a.2 } }
  v.advanceRamp

/-- BEAT (R25). -/
def execBeat (s : State) : Host.Outcome State Fault Refusal := live State.beat s

/-! ## Status frames -/

/-- The bus-low latch after a good frame (R34): evaluated if the beat's frame was sent with mode RUN. -/
def busLowAfter (c : Config) (l : LinkFacts) (bus : Nat) : Bool :=
  if l.sent.map (·.mode) = some .run then
    if bus < c.vTrip then true else if c.vRelease ≤ bus then false else l.busLow
  else l.busLow

/-- A slot's link facts after a good frame (R31). The bus-low watch acts on a slot in ACTIVE or PARKED
alone (R31; log entry 10). -/
def LinkFacts.taken (l : LinkFacts) (x : SlotState) (c : Config) (r : CellReport) : LinkFacts :=
  { l with
    up := true
    missing := 0
    bus := r.bus
    code := r.code
    echo := r.echo
    busLow := if x.candidate then busLowAfter c l r.bus else l.busLow
    awaiting := false
    group := [] }

/-- The presentation of a good frame (R38). -/
def goodPresentation (l : LinkFacts) : Presentation :=
  if l.code ≠ 0 then .code (0x1000 + BitVec.ofNat 16 l.code)
  else if l.busLow then .code 0x2002
  else .clear

/-- A slot's presentation, made while it is ACTIVE or PARKED at the moment the answer is taken (R38,
R39). -/
def State.presentCell (i : Slot) (x : Presentation) (s : State) : State :=
  if (s.slot i).state.candidate then s.present (.slot i) x else s

/-- A good frame taken as the answer of the beat: the link facts, then the presentation, then the recharge
check (R31). -/
def State.takeReport (i : Slot) (r : CellReport) (s : State) : State :=
  let l := (s.slot i).link.taken (s.slot i).state s.config r
  let t := s.setSlot i { s.slot i with link := l }
  (t.presentCell i (goodPresentation l)).rechargeCheck

/-- The characters held of a slot's group set. -/
def State.setGroup (i : Slot) (g : List Byte) (s : State) : State :=
  s.setSlot i { s.slot i with link := { (s.slot i).link with group := g } }

/-- A group of six characters received whole within the window is one status frame: a good one is taken, and
any other is discarded (R30, R178). -/
def State.judgeGroup (i : Slot) (g : List Byte) (s : State) : State :=
  match reportOf g with
  | none => s.setGroup i []
  | some r => s.takeReport i r

/-- A character received on a slot's link (R178): while the window waits for its answer it joins the group
that began with the window, and the sixth completes the group. Every frame after a good one in the window is
discarded (R30), so no group is kept then. -/
def State.receiveChar (i : Slot) (b : Byte) (s : State) : State :=
  if s.configured i = true ∧ (s.slot i).link.awaiting = true then
    let g := (s.slot i).link.group ++ [b]
    if g.length < 6 then s.setGroup i g else s.judgeGroup i g
  else s

/-- Characters received on a slot's link one after another (R178). -/
def State.receiveChars (i : Slot) (chars : List Byte) (s : State) : State :=
  chars.foldl (fun t b => t.receiveChar i b) s

/-- STATUS_FRAME_GOOD (R31, R178). -/
def execStatusFrameGood (slot : Slot) (chars : List Byte) (s : State) :
    Host.Outcome State Fault Refusal :=
  live (State.receiveChars slot chars) s

/-- STATUS_FRAME_BAD (R178): the hub judges its characters as it judges all (R30); if no good frame follows
in the window, the answer is missing (R32). -/
def execStatusFrameBad (slot : Slot) (chars : List Byte) (s : State) :
    Host.Outcome State Fault Refusal :=
  live (State.receiveChars slot chars) s

/-- A slot's link facts after a missing answer (R32, R33): that of a window that has closed, if one is owed, or
that of the open window, which closes with it and discards a group not received whole (R30, R178; log entry
11). -/
def LinkFacts.missed (l : LinkFacts) (c : Config) : LinkFacts :=
  let n := bump 255 l.missing
  { l with
    missing := n
    up := if c.linkLoss ≤ n then false else l.up
    owed := l.owed - 1
    awaiting := if 0 < l.owed then l.awaiting else false
    group := if 0 < l.owed then l.group else [] }

/-- The presentation of a missing answer (R38): LINK_LOSS if the link is down, else a missed
presentation. -/
def missedPresentation (l : LinkFacts) (c : Config) : Presentation :=
  if l.up = false ∧ c.linkLoss ≤ l.missing then .code 0x2001 else .missed

/-- A missing answer taken for a configured slot (R30, R32): a window that has closed, or the open one
as it closes, with no good frame taken in it. -/
def State.answerMissing (i : Slot) (s : State) : State :=
  let r := s.slot i
  if s.configured i = true ∧ (0 < r.link.owed ∨ r.link.awaiting = true) then
    let l := r.link.missed s.config
    (s.setSlot i { r with link := l }).presentCell i (missedPresentation l s.config)
  else s

/-- ANSWER_MISSING (R32). -/
def execAnswerMissing (slot : Slot) (s : State) : Host.Outcome State Fault Refusal :=
  live (State.answerMissing slot) s

end Sys2Proof.Machine
end

