-- ==== Sys2Proof/Machine/Speed.lean ====
section
/-! DEFINITION. The speed unit (06, sections 6.1 and 6.2): encoder samples, gates, results and guards. -/

namespace Sys2Proof.Machine

/-- A gate started now with the parameters in force (R110). -/
def State.newGate (s : State) : Gate :=
  { start := s.partTime
    encoderLines := s.config.encoderLines
    polePairs := s.config.polePairs
    length := s.config.gate
    count := 0
    illegal := 0 }

/-- A sample of the encoder lines (R109): the first after a device reset is only held; a later one is
compared with the held state and counted into the running gate. -/
def State.encoderSample (a b : Bool) (s : State) : State :=
  { s with speed := { s.speed with
      held := some (a, b)
      gate :=
        match s.speed.held with
        | none => s.speed.gate
        | some h => s.speed.gate.map fun g => g.counted (encoderStep h (a, b)) } }

/-- ENCODER_SAMPLE (R109). -/
def execEncoderSample (a b : Bool) (s : State) : Host.Outcome State Fault Refusal :=
  live (State.encoderSample a b) s

/-- The guards in STOPPED and RUNNING (R113, R115, R116). -/
def State.guardHalt (r : SpeedResult) (s : State) : State :=
  if s.overspeed r then s.halt 0x5001 else if r.valid then s else s.halt 0x5003

/-- The guards in RIDING, and the capture where none acts in CAPTURE (R71, R86, R112, R116). -/
def State.guardRide (e : EpisodeRecord) (r : SpeedResult) (s : State) : State :=
  if s.overspeed r then s.failEpisode .overspeed 0x5001
  else if s.runaway e r then s.failEpisode .runaway 0x5002
  else if r.valid = false then s.failEpisode .encoder 0x5003
  else if e.phase = .capture then s.capture r
  else s

/-- The encoder guard in HALTED: a notice if the result replaced was valid (R115). -/
def State.guardNote (before r : SpeedResult) (s : State) : State :=
  if r.valid = false ∧ before.valid = true then s.offer (.faultNoted .speedUnit 0x5003 none) else s

/-- The judgement of a new last speed result, which replaced `before` (R112, R116). -/
def State.judgeSpeed (before r : SpeedResult) (s : State) : State :=
  match s.drive.state with
  | .unconfigured => s
  | .stopped => s.guardHalt r
  | .running => s.guardHalt r
  | .halted => s.guardNote before r
  | .riding =>
    match s.episode.current with
    | none => s
    | some e => s.guardRide e r

/-- A gate completion, if the gate's end has been reached (R110, R111, R112): the result, its judgement, and
the next gate. -/
def State.gateCompletion (s : State) : State :=
  match s.speed.gate with
  | none => s
  | some g =>
    if g.due s.partTime then
      let r := g.result s.partTime
      { s with speed := { s.speed with last := r, gate := some s.newGate } }.judgeSpeed s.speed.last r
    else s

/-- GATE_COMPLETION (R112). -/
def execGateCompletion (s : State) : Host.Outcome State Fault Refusal := live State.gateCompletion s

end Sys2Proof.Machine
end

