-- ==== Sys2Proof/Machine/Configuration.lean ====
section
/-! DEFINITION. Configuration (11): the checks of CONFIGURE, the first CONFIGURE and what it starts, and
READ_CONFIG. -/

namespace Sys2Proof.Machine

/-- A parameter's value by its field id (R169); N may be absent. -/
def configValue (c : Config) (id : Nat) : Option Nat :=
  match id with
  | 1 => c.n
  | 2 => some c.period
  | 3 => some c.linkLoss
  | 4 => some c.vTrip
  | 5 => some c.vRelease
  | 6 => some c.bypassTimeout
  | 7 => some c.settle
  | 8 => some c.window
  | 9 => some c.ramp
  | 10 => some c.handover
  | 11 => some c.supervision
  | 12 => some c.minCells
  | 13 => some c.fMax
  | 14 => some c.encoderLines
  | 15 => some c.polePairs
  | 16 => some c.gate
  | 17 => some c.fRated
  | 18 => some c.boost
  | 19 => some c.fLimit
  | 20 => some c.fOver
  | 21 => some c.runaway
  | _ => none

/-- The configuration a request leaves in force: each field it carries, the standing value for the
others (R172). -/
def configAfter (q : Items) (c : Config) : Config :=
  { n := (field q 1).or c.n
    period := (field q 2).getD c.period
    linkLoss := (field q 3).getD c.linkLoss
    vTrip := (field q 4).getD c.vTrip
    vRelease := (field q 5).getD c.vRelease
    bypassTimeout := (field q 6).getD c.bypassTimeout
    settle := (field q 7).getD c.settle
    window := (field q 8).getD c.window
    ramp := (field q 9).getD c.ramp
    handover := (field q 10).getD c.handover
    supervision := (field q 11).getD c.supervision
    minCells := (field q 12).getD c.minCells
    fMax := (field q 13).getD c.fMax
    encoderLines := (field q 14).getD c.encoderLines
    polePairs := (field q 15).getD c.polePairs
    gate := (field q 16).getD c.gate
    fRated := (field q 17).getD c.fRated
    boost := (field q 18).getD c.boost
    fLimit := (field q 19).getD c.fLimit
    fOver := (field q 20).getD c.fOver
    runaway := (field q 21).getD c.runaway }

/-- A value lies between two bounds. -/
def between (lo hi v : Nat) : Bool := decide (lo ≤ v) && decide (v ≤ hi)

/-- A parameter's range, with the N a request leaves in force (R169, R170). -/
def paramOk (n : Nat) (id v : Nat) : Bool :=
  match id with
  | 1 => between 2 9 v
  | 2 => between 5000 50000 v
  | 3 => between 2 16 v
  | 4 => between 100 1500 v
  | 5 => between 100 1500 v
  | 6 => between 10 200 v
  | 7 => between 0 20 v
  | 8 => between 50 1000 v
  | 9 => between 10 500 v
  | 10 => between 10 200 v
  | 11 => between 5 500 v
  | 12 => between 1 n v
  | 13 => between 1 6 v
  | 14 => between 256 16384 v
  | 15 => between 1 16 v
  | 16 => [2, 5, 10, 20].contains v
  | 17 => between 500 10000 v
  | 18 => between 0 100 v
  | 19 => between 100 12000 v
  | 20 => between 100 15000 v
  | 21 => between 10 2000 v
  | _ => false

/-- The field ids of CONFIGURE in field order. -/
def configIds : List Nat := [1, 2, 3, 4, 5, 6, 7, 8, 9, 10, 11, 12, 13, 14, 15, 16, 17, 18, 19, 20, 21]

/-- The first of a pair's two fields that a request carries, if it carries one (R171). -/
def pairField (q : Items) (x y : Nat) : Option Nat := [x, y].find? fun id => (field q id).isSome

/-- A pair's cross-check (R171): made only when the request carries one of its fields. -/
def pairCheck (q : Items) (x y : Nat) (holds : Bool) : Bool × RefusalCause :=
  match pairField q x y with
  | none => (true, .range x)
  | some id => (holds, .range id)

/-- CONFIGURE's refusal (R170, R171). A request in STOPPED or HALTED that carries f_limit or f_over at its
current value, while the pair stands at its reset defaults and so fails the cross-check, is refused RANGE by
R171, though R172 calls a request of current values accepted (DESIGN CHOICE: log entry 22). -/
def refuseConfigure (q : Items) (s : State) : Option RefusalCause :=
  let after := configAfter q s.config
  let unconfigured := decide (s.drive.state = .unconfigured)
  firstRefusal
    ([(unconfigured || decide (s.drive.state = .stopped) || decide (s.drive.state = .halted), .state),
      (!unconfigured || (field q 1).isSome, .missing 1),
      (unconfigured || fieldOk q 1 (fun v => decide (s.config.n = some v)), .state)] ++
      configIds.map (fun id => (fieldOk q id (paramOk (after.n.getD 0) id), .range id)) ++
      [pairCheck q 4 5 (decide (after.vTrip + 20 ≤ after.vRelease)),
       pairCheck q 19 20 (decide (after.fLimit < after.fOver))])

/-- A slot record at the first CONFIGURE (R16): a slot at a position from 1 to N leaves ABSENT for the
state its debounced feedback gives. -/
def inheritSlot (n : Nat) (i : Slot) (r : SlotRecord) : SlotRecord :=
  if slotPosition i ≤ n then
    { r with state := if r.contactor.feedback = .closed then .bypassed else .active }
  else r

/-- What the first CONFIGURE starts, the configuration already written (R16, R110, R129, R130). -/
def State.firstConfigure (s : State) : State :=
  let t := s.mapSlots (inheritSlot s.n)
  let t := { t with
    drive := { t.drive with state := .stopped }
    outputs := { t.outputs with brkDemand := false }
    speed := { t.speed with gate := some t.newGate } }
  t.offer (.driveState .stopped 0)

/-- An accepted CONFIGURE (R172). -/
def State.acceptConfig (q : Items) (s : State) : State :=
  let t := { s with config := configAfter q s.config }
  if s.drive.state = .unconfigured then t.firstConfigure else t

/-- The fields of READ_CONFIG's reply: the drive state as item 0, then the parameters in field order, N
left out while it is absent (R175, R177). -/
def configBytes (s : State) : List Byte :=
  item 0 (byte1 (driveStateCode s.drive.state)) ++
    configIds.flatMap fun id =>
      match configValue s.config id with
      | none => []
      | some v => item id (byte2 v)

/-- CONFIGURE (R170 to R172). -/
def serveConfigure (q : Items) (s : State) : State × Answer :=
  let t := s.acceptConfig q
  serveWith (refuseConfigure q s) t (configBytes t) s

/-- READ_CONFIG (R175). -/
def serveReadConfig (_q : Items) (s : State) : State × Answer := serveWith none s (configBytes s) s

end Sys2Proof.Machine
end

