-- ==== Sys2Proof/Machine/DriveRequests.lean ====
section
/-! DEFINITION. The drive requests (07): START, STOP, CLEAR_HALT and REFERENCE. -/

namespace Sys2Proof.Machine

/-- A slot state that START refuses (R132). -/
def SlotState.unsettled : SlotState → Bool
  | .stuck => true
  | .faulted => true
  | .bypassing => true
  | .returning => true
  | _ => false

/-- START's refusal (R132). -/
def refuseStart (s : State) : Option RefusalCause :=
  firstRefusal
    [(decide (s.drive.state = .stopped), .state),
     (allSlots.all fun i => !(s.configured i && (s.slot i).state.unsettled), .state),
     (!s.tooFew, .insufficient)]

/-- An accepted START (R133). -/
def State.acceptStart (s : State) : State :=
  let t := s.commit
  let t := { t with
    mod := { t.mod with theta := 0, mag := 0, freq := 0 }
    drive := { t.drive with
      state := .running
      reference := none
      supervision := some (t.timer t.config.supervision) } }
  t.offer (.driveState .running 0)

/-- START's reply (12, "Other fixed reply layouts"). -/
def startBytes (s : State) : List Byte :=
  byte1 (driveStateCode s.drive.state) ++
    orZeros 9 s.committed (fun p =>
      keyBytes p.fields.counts ++ byte2 p.fields.r ++ sourceBytes p.fields.source) ++
    byte1 s.sync.toNat

/-- START (R132, R133). -/
def serveStart (_q : Items) (s : State) : State × Answer :=
  serveWith (refuseStart s) s.acceptStart (startBytes s.acceptStart) s

/-- The drive state as the only item of a reply. -/
def driveItem (s : State) : List Byte := item 1 (byte1 (driveStateCode s.drive.state))

/-- STOP's refusal (R135). -/
def refuseStop (s : State) : Option RefusalCause :=
  match s.drive.state with
  | .unconfigured => some .state
  | .halted => some .state
  | _ => none

/-- An accepted STOP (R135, R88). -/
def State.acceptStop (s : State) : State :=
  match s.drive.state with
  | .running =>
    let t := s.dropReference.zeroApplied
    { t with drive := { t.drive with state := .stopped } }.offer (.driveState .stopped 0)
  | .riding => s.failEpisode .aborted 0x6005
  | _ => s

/-- STOP (R135). -/
def serveStop (_q : Items) (s : State) : State × Answer :=
  serveWith (refuseStop s) s.acceptStop (driveItem s.acceptStop) s

/-- CLEAR_HALT's refusal (R144). -/
def refuseClearHalt (s : State) : Option RefusalCause :=
  firstRefusal
    [(decide (s.drive.state = .halted), .state),
     (decide (s.speed.last.f = 0) && s.speed.last.valid, .moving)]

/-- An accepted CLEAR_HALT (R144). -/
def State.acceptClearHalt (s : State) : State :=
  { s with
    drive := { s.drive with state := .stopped, haltCause := none }
    outputs := { s.outputs with brkDemand := false } }.offer (.driveState .stopped 0)

/-- CLEAR_HALT (R144). -/
def serveClearHalt (_q : Items) (s : State) : State × Answer :=
  serveWith (refuseClearHalt s) s.acceptClearHalt (driveItem s.acceptClearHalt) s

/-- REFERENCE's refusal (R137). -/
def refuseReference (q : Items) (s : State) : Option RefusalCause :=
  if s.drive.state = .running ∨ (s.drive.state = .riding ∧ s.phase = some .handover) then
    match firstAbsent q [1, 2] with
    | some id => some (.missing id)
    | none => firstRefusal
        [(decide (fieldD q 1 ≤ 1200), .range 1),
         (decide (-32767 ≤ signed16 (fieldD q 2)), .range 2)]
  else some .state

/-- The reference a REFERENCE puts in force (R122). -/
def State.referenceOf (s : State) (q : Items) : Reference :=
  referenceFrom (fieldD q 1) (signed16 (fieldD q 2)) s.ratio s.config.fLimit s.partTime

/-- An accepted REFERENCE (R138); in HANDOVER it closes the episode (R75). -/
def State.acceptReference (ref : Reference) (s : State) : State :=
  match s.drive.state with
  | .riding => s.closeRestored ref
  | _ =>
    { s with
      drive := { s.drive with
        reference := some ref
        supervision := some (s.timer s.config.supervision) }
      mod := { s.mod with mag := ref.mag, freq := ref.freq } }

/-- REFERENCE's reply: the applied magnitude and frequency and the two flags (R138). -/
def referenceBytes (ref : Reference) : List Byte :=
  item 1 (byte2 ref.mag) ++ item 2 (byte2s ref.freq) ++ item 3 (byte1 (flagBit 0 ref.limited)) ++
    item 4 (byte1 (flagBit 0 ref.clamped))

/-- REFERENCE (R137, R138). -/
def serveReference (q : Items) (s : State) : State × Answer :=
  let ref := s.referenceOf q
  serveWith (refuseReference q s) (s.acceptReference ref) (referenceBytes ref) s

end Sys2Proof.Machine
end

