-- ==== Sys2Proof/Machine/Notices.lean ====
section
/-! DEFINITION. The readout requests (09, 10): NOTICE_MASK, TAKE_NOTICES, READ_EPISODE, READ_STATUS and
LINK_RESET. -/

namespace Sys2Proof.Machine

/-- The kinds a list byte names (R177). -/
def maskField (q : Items) (id : Nat) : BitVec 6 := BitVec.ofNat 6 (fieldD q id)

/-- NOTICE_MASK's refusal (R163). -/
def refuseNoticeMask (q : Items) : Option RefusalCause :=
  firstRefusal
    [(fieldOk q 1 (fun v => decide (v < 64)), .range 1), (fieldOk q 2 (fun v => decide (v < 64)), .range 2),
     (fieldOk q 3 (between 1 16), .range 3)]

/-- The mask and threshold after an accepted NOTICE_MASK (R163). -/
def NoticeQueue.setBy (q : Items) (n : NoticeQueue) : NoticeQueue :=
  { n with
    mask := (n.mask ||| maskField q 1) &&& ~~~(maskField q 2)
    threshold := (field q 3).getD n.threshold }

/-- NOTICE_MASK (R163). Bits 6 and 7 of the enables byte are sent 0 (DESIGN CHOICE: log entry 24). -/
def serveNoticeMask (q : Items) (s : State) : State × Answer :=
  let t := State.updateAttn { s with notices := s.notices.setBy q }
  serveWith (refuseNoticeMask q) t (byte1 t.notices.mask.toNat ++ byte1 t.notices.threshold) s

/-- The notices a TAKE_NOTICES removes (R164). -/
def State.taken (s : State) (q : Items) : List Notice := s.notices.items.take ((field q 1).getD 8)

/-- TAKE_NOTICES (R164). -/
def serveTakeNotices (q : Items) (s : State) : State × Answer :=
  let rest := s.notices.items.drop ((field q 1).getD 8)
  let t := State.updateAttn { s with notices := { s.notices with items := rest, overflow := 0 } }
  serveWith (if fieldOk q 1 (between 1 8) then none else some (.range 1)) t
    (byte1 (s.taken q).length ++ byte1 s.notices.overflow ++ byte1 rest.length ++
      (s.taken q).flatMap noticeBytes) s

/-- The record a selector names, if it is held (R167). -/
def State.selectEpisode (s : State) (sel : Nat) : Option EpisodeRecord :=
  if sel = 0 then s.episode.current else s.episode.history[sel - 1]?

/-- READ_EPISODE's refusal (R167). -/
def refuseReadEpisode (q : Items) (s : State) : Option RefusalCause :=
  match field q 1 with
  | none => some (.missing 1)
  | some sel =>
    firstRefusal [(decide (sel ≤ 4), .range 1), ((s.selectEpisode sel).isSome, .notFound)]

/-- READ_EPISODE (R167, R168). -/
def serveReadEpisode (q : Items) (s : State) : State × Answer :=
  serveWith (refuseReadEpisode q s) s
    (match s.selectEpisode (fieldD q 1) with | none => [] | some e => episodeBytes e) s

/-- READ_STATUS (R156). -/
def serveReadStatus (_q : Items) (s : State) : State × Answer := serveWith none s (statusBytes s) s

/-- The transmission of the BUSY refusal in the slot has begun (R157). -/
def LinkCtl.sendingBusy (l : LinkCtl) : Bool := decide (l.tx.map (·.source) = some .busy)

/-- LINK_RESET's effect, the request itself already out of the request queue (R157). -/
def State.linkReset (s : State) : State :=
  State.updateAttn { s with
    link := { s.link with
      requests := []
      refusal := if s.link.sendingBusy then s.link.refusal else none
      discarded := 0 }
    notices := {} }

/-- LINK_RESET (R157). -/
def serveLinkReset (_q : Items) (s : State) : State × Answer :=
  serveWith none s.linkReset
    (item 1 (byte1 s.link.requests.length) ++
      item 2 (byte1 (flagBit 0 (s.link.refusal.isSome && !s.link.sendingBusy))) ++
      item 3 (byte1 s.notices.items.length)) s

end Sys2Proof.Machine
end

