-- ==== Sys2Proof/Machine/Link.lean ====
section
/-! DEFINITION. The control link controller (09): serving, queueing, the receiver, the transmitter, and the
commands of the requests. -/

namespace Sys2Proof.Machine

/-! ## Serving (R152) -/

/-- A request of a kind a block serves, carried out or refused by the block that owns the kind. -/
def serveKind (k : RequestKind) (q : Items) (s : State) : State × Answer :=
  match k with
  | .configure => serveConfigure q s
  | .readConfig => serveReadConfig q s
  | .start => serveStart q s
  | .stop => serveStop q s
  | .clearHalt => serveClearHalt q s
  | .reference => serveReference q s
  | .bypassCell => serveBypassCell q s
  | .returnCell => serveReturnCell q s
  | .readCell => serveReadCell q s
  | .readCells => serveReadCells q s
  | .routeSet => serveRouteSet q s
  | .routeRead => serveRouteRead q s
  | .extSet => serveExtSet q s
  | .planPut => servePlanPut q s
  | .planDrop => servePlanDrop q s
  | .planList => servePlanList q s
  | .planClear => servePlanClear q s
  | .readEpisode => serveReadEpisode q s
  | .takeNotices => serveTakeNotices q s
  | .noticeMask => serveNoticeMask q s
  | .readStatus => serveReadStatus q s
  | .linkReset => serveLinkReset q s

/-- A request served: its form is checked first, then its block's checks (R152). -/
def serveRequest (r : Request) (s : State) : State × Answer :=
  match kindOf r.kind with
  | none => (s, .refused .unknownKind)
  | some k =>
    match itemsOf k r.payload with
    | none => (s, .refused .length)
    | some q => serveKind k q s

/-- A reply joins the tail of the reply queue (R152). -/
def State.pushReply (r : Request) (a : Answer) (s : State) : State :=
  { s with link := { s.link with
      replies := s.link.replies ++ [{ kind := r.kind, tag := r.tag, answer := a }] } }

/-- The request queue replaced. -/
def State.setRequests (rs : List Request) (s : State) : State :=
  { s with link := { s.link with requests := rs } }

/-- The head of the request queue is served if the reply queue has a place (R152). -/
def State.serveHead (s : State) : State :=
  match s.link.requests with
  | [] => s
  | r :: rest =>
    if s.link.replies.length < Config.replyCapacity then
      let served := serveRequest r (s.setRequests rest)
      served.1.pushReply r served.2
    else s

/-! ## Queueing (R151) -/

/-- A frame discarded or dropped is counted (R149, R150). -/
def State.countDiscard (s : State) : State :=
  { s with link := { s.link with discarded := bump 255 s.link.discarded } }

/-- A valid frame offered to the request queue (R151). -/
def State.offerRequest (r : Request) (s : State) : State :=
  if s.link.requests.length < Config.requestCapacity then s.setRequests (s.link.requests ++ [r])
  else
    match s.link.refusal with
    | none => { s with link := { s.link with refusal := some { kind := r.kind, tag := r.tag } } }
    | some _ => s.countDiscard

/-- A valid frame that has completed: it is offered to the request queue, and the head of the queue is
served at once if the reply queue has a place (R151, R152; log entry 3). -/
def State.arrive (r : Request) (s : State) : State := (s.offerRequest r).serveHead

/-- The command of a request: a valid frame of the kind has completed on the link. A payload above 240
bytes has no frame: its length byte is discarded (R148). -/
def State.request (kind tag : Byte) (payload : List Byte) (s : State) : State :=
  if Config.maxPayload < payload.length then s.countDiscard
  else s.arrive { kind := kind, tag := tag, payload := payload }

/-! ## The receiver (R147, R148, R149) -/

/-- The receiver's state set. -/
def State.setRx (rx : Receiver) (s : State) : State := { s with link := { s.link with rx := rx } }

/-- A frame being assembled is abandoned and counted (R149). -/
def State.abandonFrame (s : State) : State := (s.setRx .hunting).countDiscard

/-- A completed frame's bytes after the start byte, judged by its check (R149, R151). -/
def State.judgeFrame (bytes : List Byte) (s : State) : State :=
  match bytes with
  | len :: kind :: tag :: rest =>
    let payload := rest.take len.toNat
    if rest.drop len.toNat = byte2Of (crc16 (len :: kind :: tag :: payload)) then
      s.arrive { kind := kind, tag := tag, payload := payload }
    else s.countDiscard
  | _ => s.countDiscard

/-- A byte taken while a frame is being assembled, `bytes` being those taken since the start byte (R148). -/
def State.takeByte (bytes : List Byte) (b : Byte) (s : State) : State :=
  let all := bytes ++ [b]
  match all with
  | [] => s
  | len :: _ =>
    if Config.maxPayload < len.toNat then s.abandonFrame
    else if all.length = len.toNat + 5 then (s.setRx .hunting).judgeFrame all
    else s.setRx (.assembling all s.partTime)

/-- A byte taken by the receiver (R148). -/
def State.receiveByte (b : Byte) (s : State) : State :=
  match s.link.rx with
  | .hunting => if b = startByte then s.setRx (.assembling [] s.partTime) else s
  | .assembling bytes _ => s.takeByte bytes b

/-- RECEIVE_BYTE (R148). -/
def execReceiveByte (byte : Byte) (s : State) : Host.Outcome State Fault Refusal :=
  live (State.receiveByte byte) s

/-- The frame being assembled wants one byte more, its last check byte. -/
def lastByteNext (bytes : List Byte) : Bool :=
  match bytes with
  | [] => false
  | len :: _ => decide (bytes.length = len.toNat + 4)

/-- The last check byte of a frame taken (R148, R151). -/
def State.frameComplete (b : Byte) (s : State) : State :=
  match s.link.rx with
  | .hunting => s
  | .assembling bytes _ => if lastByteNext bytes then s.takeByte bytes b else s

/-- FRAME_COMPLETE (R151). -/
def execFrameComplete (lastCheck : Byte) (s : State) : Host.Outcome State Fault Refusal :=
  live (State.frameComplete lastCheck) s

/-- A length byte above 240 taken as the first byte after the start byte (R148). -/
def State.frameLengthReject (len : Byte) (s : State) : State :=
  match s.link.rx with
  | .assembling [] _ => if Config.maxPayload < len.toNat then s.abandonFrame else s
  | _ => s

/-- FRAME_LENGTH_REJECT (R148). -/
def execFrameLengthReject (length : Byte) (s : State) : Host.Outcome State Fault Refusal :=
  live (State.frameLengthReject length) s

/-- A character whose stop bit reads low (R147). -/
def State.framingError (s : State) : State :=
  match s.link.rx with
  | .hunting => s
  | .assembling _ _ => s.abandonFrame

/-- FRAMING_ERROR (R147). -/
def execFramingError (s : State) : Host.Outcome State Fault Refusal := live State.framingError s

/-- More than 1 ms without the next byte of a frame being assembled (R148). -/
def State.interbyteGap (s : State) : State :=
  match s.link.rx with
  | .hunting => s
  | .assembling _ last => if elapsed last 1001 s.partTime then s.abandonFrame else s

/-- INTERBYTE_GAP_TIMEOUT (R148). -/
def execInterbyteGapTimeout (s : State) : Host.Outcome State Fault Refusal := live State.interbyteGap s

/-! ## The transmitter (R154) -/

/-- Bits per second of a rate. -/
def bitsPerSecond : Baud → Nat
  | .b115200 => 115200
  | .b460800 => 460800
  | .b921600 => 921600
  | .b2000000 => 2000000

/-- The time a frame of `n` bytes takes on the line, in whole microseconds rounded up: ten bits a
character, without gaps (R147, R154). -/
def lineTime (rate : Baud) (n : Nat) : Nat :=
  (10000000 * n + bitsPerSecond rate - 1) / bitsPerSecond rate

/-- The frame the free transmitter would begin: the BUSY refusal if the slot is occupied, else the oldest
reply (R154). -/
def LinkCtl.nextFrame (l : LinkCtl) : Option (TxSource × List Byte) :=
  match l.refusal, l.replies with
  | some b, _ => some (.busy, busyFrame b)
  | none, r :: _ => some (.reply, replyFrame r)
  | none, [] => none

/-- The free transmitter begins a frame (R154). -/
def State.transmitBegin (s : State) : State :=
  match s.link.tx, s.link.nextFrame with
  | none, some f =>
    { s with link := { s.link with tx := some { source := f.1, bytes := f.2, start := s.partTime } } }
  | _, _ => s

/-- TRANSMIT_BEGIN (R154). -/
def execTransmitBegin (s : State) : Host.Outcome State Fault Refusal := live State.transmitBegin s

/-- A frame being sent at the given rate has been on the line for its whole time (R154). -/
def Transmission.due (x : Transmission) (rate : Baud) (now : PartTime) : Bool :=
  elapsed x.start (lineTime rate x.bytes.length) now

/-- The last byte of a frame has been sent (R154): the refusal slot is emptied, or the reply leaves the
reply queue and the head request is served in its place (R152). -/
def State.transmitComplete (s : State) : State :=
  match s.link.tx with
  | none => s
  | some x =>
    if x.due s.link.rate s.partTime then
      match x.source with
      | .busy => { s with link := { s.link with tx := none, refusal := none } }
      | .reply =>
        State.serveHead { s with link := { s.link with tx := none, replies := s.link.replies.drop 1 } }
    else s

/-- TRANSMIT_COMPLETE (R154). -/
def execTransmitComplete (s : State) : Host.Outcome State Fault Refusal := live State.transmitComplete s

/-! ## The commands of the requests -/

/-- UNKNOWN_KIND_REQUEST (R152). -/
def execUnknownKindRequest (kind tag : Byte) (payload : List Byte) (s : State) :
    Host.Outcome State Fault Refusal :=
  live (State.request kind tag payload) s

/-- CONFIGURE (R170). -/
def execConfigure (tag : Byte) (payload : List Byte) (s : State) : Host.Outcome State Fault Refusal :=
  live (State.request RequestKind.configure.byte tag payload) s

/-- READ_CONFIG (R175). -/
def execReadConfig (tag : Byte) (payload : List Byte) (s : State) : Host.Outcome State Fault Refusal :=
  live (State.request RequestKind.readConfig.byte tag payload) s

/-- START (R133). -/
def execStart (tag : Byte) (payload : List Byte) (s : State) : Host.Outcome State Fault Refusal :=
  live (State.request RequestKind.start.byte tag payload) s

/-- STOP (R135). -/
def execStop (tag : Byte) (payload : List Byte) (s : State) : Host.Outcome State Fault Refusal :=
  live (State.request RequestKind.stop.byte tag payload) s

/-- CLEAR_HALT (R144). -/
def execClearHalt (tag : Byte) (payload : List Byte) (s : State) : Host.Outcome State Fault Refusal :=
  live (State.request RequestKind.clearHalt.byte tag payload) s

/-- REFERENCE (R138). -/
def execReference (tag : Byte) (payload : List Byte) (s : State) : Host.Outcome State Fault Refusal :=
  live (State.request RequestKind.reference.byte tag payload) s

/-- BYPASS_CELL (R18). -/
def execBypassCell (tag : Byte) (payload : List Byte) (s : State) : Host.Outcome State Fault Refusal :=
  live (State.request RequestKind.bypassCell.byte tag payload) s

/-- RETURN_CELL (R19). -/
def execReturnCell (tag : Byte) (payload : List Byte) (s : State) : Host.Outcome State Fault Refusal :=
  live (State.request RequestKind.returnCell.byte tag payload) s

/-- READ_CELL (R20). -/
def execReadCell (tag : Byte) (payload : List Byte) (s : State) : Host.Outcome State Fault Refusal :=
  live (State.request RequestKind.readCell.byte tag payload) s

/-- READ_CELLS (R20). -/
def execReadCells (tag : Byte) (payload : List Byte) (s : State) : Host.Outcome State Fault Refusal :=
  live (State.request RequestKind.readCells.byte tag payload) s

/-- ROUTE_SET (R48). -/
def execRouteSet (tag : Byte) (payload : List Byte) (s : State) : Host.Outcome State Fault Refusal :=
  live (State.request RequestKind.routeSet.byte tag payload) s

/-- ROUTE_READ (R49). -/
def execRouteRead (tag : Byte) (payload : List Byte) (s : State) : Host.Outcome State Fault Refusal :=
  live (State.request RequestKind.routeRead.byte tag payload) s

/-- EXT_SET (R44). -/
def execExtSet (tag : Byte) (payload : List Byte) (s : State) : Host.Outcome State Fault Refusal :=
  live (State.request RequestKind.extSet.byte tag payload) s

/-- PLAN_PUT (R97). -/
def execPlanPut (tag : Byte) (payload : List Byte) (s : State) : Host.Outcome State Fault Refusal :=
  live (State.request RequestKind.planPut.byte tag payload) s

/-- PLAN_DROP (R98). -/
def execPlanDrop (tag : Byte) (payload : List Byte) (s : State) : Host.Outcome State Fault Refusal :=
  live (State.request RequestKind.planDrop.byte tag payload) s

/-- PLAN_CLEAR (R99). -/
def execPlanClear (tag : Byte) (payload : List Byte) (s : State) : Host.Outcome State Fault Refusal :=
  live (State.request RequestKind.planClear.byte tag payload) s

/-- PLAN_LIST (R100). -/
def execPlanList (tag : Byte) (payload : List Byte) (s : State) : Host.Outcome State Fault Refusal :=
  live (State.request RequestKind.planList.byte tag payload) s

/-- READ_EPISODE (R168). -/
def execReadEpisode (tag : Byte) (payload : List Byte) (s : State) : Host.Outcome State Fault Refusal :=
  live (State.request RequestKind.readEpisode.byte tag payload) s

/-- TAKE_NOTICES (R164). -/
def execTakeNotices (tag : Byte) (payload : List Byte) (s : State) : Host.Outcome State Fault Refusal :=
  live (State.request RequestKind.takeNotices.byte tag payload) s

/-- NOTICE_MASK (R163). -/
def execNoticeMask (tag : Byte) (payload : List Byte) (s : State) : Host.Outcome State Fault Refusal :=
  live (State.request RequestKind.noticeMask.byte tag payload) s

/-- READ_STATUS (R156). -/
def execReadStatus (tag : Byte) (payload : List Byte) (s : State) : Host.Outcome State Fault Refusal :=
  live (State.request RequestKind.readStatus.byte tag payload) s

/-- LINK_RESET (R157). -/
def execLinkReset (tag : Byte) (payload : List Byte) (s : State) : Host.Outcome State Fault Refusal :=
  live (State.request RequestKind.linkReset.byte tag payload) s

end Sys2Proof.Machine
end

