-- ==== Sys2Proof/Machine/Reset.lean ====
section
/-! DEFINITION. The device reset (R128, R147, R179). -/

namespace Sys2Proof.Machine

/-- The levels that begin a device reset: the supply below 2.95 V or RESET_N low (R179). -/
def resetAsked (millivolts : Nat) (resetN : Bool) : Bool := decide (millivolts < 2950) || !resetN

/-- The levels that end a device reset: the supply above 3.05 V and RESET_N high (R179). -/
def resetReleased (millivolts : Nat) (resetN : Bool) : Bool := decide (3050 < millivolts) && resetN

/-- The rate the straps choose (R147). -/
def rateOf (strap1 strap0 : Bool) : Baud :=
  match strap1, strap0 with
  | false, false => .b115200
  | false, true => .b460800
  | true, false => .b921600
  | true, true => .b2000000

/-- A device reset taken: every block at its reset values (R128 and the reset rule of each chapter). The
strap rate stands until the reset ends (R147); the waiting commands and the count of free readings, which are
the model's, stay (log entries 1, 6 and 23). -/
def State.deviceReset (s : State) : State :=
  { State.reset with
    inReset := true
    link := { State.reset.link with rate := s.link.rate }
    freeReadings := s.freeReadings
    pending := s.pending }

/-- DEVICE_RESET (R128, R179). -/
def execDeviceReset (millivolts : Nat) (resetN : Bool) (s : State) : Host.Outcome State Fault Refusal :=
  .next (if resetAsked millivolts resetN then s.deviceReset else s)

/-- RESET_END (R179, R147): the rate straps are read. -/
def execResetEnd (millivolts : Nat) (resetN strap1 strap0 : Bool) (s : State) :
    Host.Outcome State Fault Refusal :=
  .next (if s.inReset && resetReleased millivolts resetN then
    { s with inReset := false, link := { s.link with rate := rateOf strap1 strap0 } }
  else s)

end Sys2Proof.Machine
end

