-- ==== Sys2Proof/Machine/Clock.lean ====
section
/-! DEFINITION. Part time and the events it brings (00_scope, "Time"; R5, R25, R66, R110, R139, R148, R154):
what a step does when no command waits (log entry 4). -/

namespace Sys2Proof.Machine

/-- A command raised when a condition holds. -/
def raiseIf (b : Bool) (i : Instr) : List Instr := if b then [i] else []

/-- A timer's expiry, raised when its time has been reached (R66, R139). -/
def timerEvent (t : Option Timer) (now : PartTime) (i : Instr) : List Instr :=
  match t with
  | none => []
  | some t => raiseIf (t.due now) i

/-- The expiry of a slot's pulse operation (R5). -/
def pulseEvent (s : State) (i : Slot) : List Instr :=
  match (s.slot i).contactor.pulse with
  | none => []
  | some p =>
    raiseIf (p.due s.partTime)
      (match p.kind with | .close => .bypassTimeout i | .opening => .returnOperationTimeout i)

/-- The missing answers of the windows that have closed with no good frame, one for each (R30). -/
def missingEvent (s : State) (i : Slot) : List Instr :=
  List.replicate (s.slot i).link.owed (.answerMissing i)

/-- The running gate's completion (R110). -/
def gateEvent (s : State) : List Instr :=
  match s.speed.gate with
  | none => []
  | some g => raiseIf (g.due s.partTime) .gateCompletion

/-- The inter-byte gap of a frame being assembled (R148). -/
def gapEvent (s : State) : List Instr :=
  match s.link.rx with
  | .hunting => []
  | .assembling _ last => raiseIf (elapsed last 1001 s.partTime) .interbyteGapTimeout

/-- The transmitter's next event (R154). -/
def txEvent (s : State) : List Instr :=
  match s.link.tx with
  | none => raiseIf s.link.nextFrame.isSome .transmitBegin
  | some x => raiseIf (x.due s.link.rate s.partTime) .transmitComplete

/-- The ramp's completion: handed on already and not yet taken, or handed on by the beat due now, so that it
is taken at the part time of ramp beat n (R119). -/
def rampEvent (s : State) : List Instr :=
  raiseIf (s.mod.rampDone || (elapsed s.beatAt 100 s.partTime && s.rampEnds)) .rampCompletion

/-- The events due at the part time standing, in one fixed order. The manual leaves the order of events at
one moment open (00_scope, "Time"; R74): that the ramp's completion stands right after the beat that hands it
on, and before a window expiry of the same moment, is the model's choice (log entries 4 and 21). -/
def dueEvents (s : State) : List Instr :=
  raiseIf (elapsed s.beatAt 100 s.partTime) .beat ++
  rampEvent s ++
  timerEvent s.episode.settle s.partTime .settleExpiry ++
  timerEvent s.episode.window s.partTime .windowExpiry ++
  timerEvent s.episode.handover s.partTime .handoverExpiry ++
  timerEvent s.drive.supervision s.partTime .supervisionExpiry ++
  allSlots.flatMap (missingEvent s) ++
  allSlots.flatMap (pulseEvent s) ++
  gateEvent s ++ gapEvent s ++ txEvent s

/-- One microsecond of part time with no command waiting: part time advances and the events that have come
due join the queue. While a device reset lasts nothing happens. -/
def State.tick (s : State) : State :=
  if s.inReset then s
  else
    let t := { s with partTime := s.partTime + 1 }
    { t with pending := dueEvents t }

end Sys2Proof.Machine
end

