-- ==== Sys2Proof/Machine/Dispatch.lean ====
section
/-! DEFINITION. The dispatch: one arm per command, each one call of its meaning. -/

namespace Sys2Proof.Machine

def exec (i : Instr) (s : State) : Host.Outcome State Fault Refusal :=
  match i with
  | .deviceReset millivolts resetN => Sys2Proof.Machine.execDeviceReset millivolts resetN s
  | .resetEnd millivolts resetN strap1 strap0 => Sys2Proof.Machine.execResetEnd millivolts resetN strap1 strap0 s
  | .framingError => Sys2Proof.Machine.execFramingError s
  | .frameLengthReject length => Sys2Proof.Machine.execFrameLengthReject length s
  | .interbyteGapTimeout => Sys2Proof.Machine.execInterbyteGapTimeout s
  | .frameComplete lastCheck => Sys2Proof.Machine.execFrameComplete lastCheck s
  | .transmitBegin => Sys2Proof.Machine.execTransmitBegin s
  | .transmitComplete => Sys2Proof.Machine.execTransmitComplete s
  | .unknownKindRequest kind tag payload => Sys2Proof.Machine.execUnknownKindRequest kind tag payload s
  | .configure tag payload => Sys2Proof.Machine.execConfigure tag payload s
  | .readConfig tag payload => Sys2Proof.Machine.execReadConfig tag payload s
  | .start tag payload => Sys2Proof.Machine.execStart tag payload s
  | .stop tag payload => Sys2Proof.Machine.execStop tag payload s
  | .clearHalt tag payload => Sys2Proof.Machine.execClearHalt tag payload s
  | .reference tag payload => Sys2Proof.Machine.execReference tag payload s
  | .bypassCell tag payload => Sys2Proof.Machine.execBypassCell tag payload s
  | .returnCell tag payload => Sys2Proof.Machine.execReturnCell tag payload s
  | .readCell tag payload => Sys2Proof.Machine.execReadCell tag payload s
  | .readCells tag payload => Sys2Proof.Machine.execReadCells tag payload s
  | .routeSet tag payload => Sys2Proof.Machine.execRouteSet tag payload s
  | .routeRead tag payload => Sys2Proof.Machine.execRouteRead tag payload s
  | .extSet tag payload => Sys2Proof.Machine.execExtSet tag payload s
  | .planPut tag payload => Sys2Proof.Machine.execPlanPut tag payload s
  | .planDrop tag payload => Sys2Proof.Machine.execPlanDrop tag payload s
  | .planClear tag payload => Sys2Proof.Machine.execPlanClear tag payload s
  | .planList tag payload => Sys2Proof.Machine.execPlanList tag payload s
  | .readEpisode tag payload => Sys2Proof.Machine.execReadEpisode tag payload s
  | .takeNotices tag payload => Sys2Proof.Machine.execTakeNotices tag payload s
  | .noticeMask tag payload => Sys2Proof.Machine.execNoticeMask tag payload s
  | .readStatus tag payload => Sys2Proof.Machine.execReadStatus tag payload s
  | .linkReset tag payload => Sys2Proof.Machine.execLinkReset tag payload s
  | .beat => Sys2Proof.Machine.execBeat s
  | .rampCompletion => Sys2Proof.Machine.execRampCompletion s
  | .statusFrameGood slot chars => Sys2Proof.Machine.execStatusFrameGood slot chars s
  | .statusFrameBad slot chars => Sys2Proof.Machine.execStatusFrameBad slot chars s
  | .answerMissing slot => Sys2Proof.Machine.execAnswerMissing slot s
  | .extLineSample line millivolts => Sys2Proof.Machine.execExtLineSample line millivolts s
  | .feedbackSample slot high => Sys2Proof.Machine.execFeedbackSample slot high s
  | .bypassTimeout slot => Sys2Proof.Machine.execBypassTimeout slot s
  | .returnOperationTimeout slot => Sys2Proof.Machine.execReturnOperationTimeout slot s
  | .gateCompletion => Sys2Proof.Machine.execGateCompletion s
  | .settleExpiry => Sys2Proof.Machine.execSettleExpiry s
  | .windowExpiry => Sys2Proof.Machine.execWindowExpiry s
  | .handoverExpiry => Sys2Proof.Machine.execHandoverExpiry s
  | .supervisionExpiry => Sys2Proof.Machine.execSupervisionExpiry s
  | .encoderSample a b => Sys2Proof.Machine.execEncoderSample a b s
  | .receiveByte byte => Sys2Proof.Machine.execReceiveByte byte s

end Sys2Proof.Machine
end

