-- ==== Sys2Proof/WellFormed.lean ====
section
/-! DEFINITION. Well-formed commands: those whose operands are what their row of the table names. -/

namespace Sys2Proof

/-- A request's payload fits a frame (R148). -/
def payloadFits (payload : List Byte) : Bool := decide (payload.length ≤ Config.maxPayload)

/-- A command's operands are what its row names: a request's payload fits a frame, an unknown kind is one
no block serves, a rejected length is above 240, the characters of a good status frame are six that R178
counts as good and those of a bad one are not, and the levels of a reset ask for it or release it. -/
def Instr.wellFormed : Instr → Bool
  | .deviceReset mv rn => Machine.resetAsked mv rn
  | .resetEnd mv rn _ _ => Machine.resetReleased mv rn
  | .framingError => true
  | .frameLengthReject len => decide (Config.maxPayload < len.toNat)
  | .interbyteGapTimeout => true
  | .frameComplete _ => true
  | .transmitBegin => true
  | .transmitComplete => true
  | .unknownKindRequest kind _ p => (Machine.kindOf kind).isNone && payloadFits p
  | .configure _ p => payloadFits p
  | .readConfig _ p => payloadFits p
  | .start _ p => payloadFits p
  | .stop _ p => payloadFits p
  | .clearHalt _ p => payloadFits p
  | .reference _ p => payloadFits p
  | .bypassCell _ p => payloadFits p
  | .returnCell _ p => payloadFits p
  | .readCell _ p => payloadFits p
  | .readCells _ p => payloadFits p
  | .routeSet _ p => payloadFits p
  | .routeRead _ p => payloadFits p
  | .extSet _ p => payloadFits p
  | .planPut _ p => payloadFits p
  | .planDrop _ p => payloadFits p
  | .planClear _ p => payloadFits p
  | .planList _ p => payloadFits p
  | .readEpisode _ p => payloadFits p
  | .takeNotices _ p => payloadFits p
  | .noticeMask _ p => payloadFits p
  | .readStatus _ p => payloadFits p
  | .linkReset _ p => payloadFits p
  | .beat => true
  | .rampCompletion => true
  | .statusFrameGood _ f => (Machine.reportOf f).isSome
  | .statusFrameBad _ f => (Machine.reportOf f).isNone
  | .answerMissing _ => true
  | .extLineSample _ _ => true
  | .feedbackSample _ _ => true
  | .bypassTimeout _ => true
  | .returnOperationTimeout _ => true
  | .gateCompletion => true
  | .settleExpiry => true
  | .windowExpiry => true
  | .handoverExpiry => true
  | .supervisionExpiry => true
  | .encoderSample _ _ => true
  | .receiveByte _ => true

end Sys2Proof
end

