-- ==== Sys2Proof/Safety.lean ====
section
/-! DEFINITION. The terms of the claims about the FR-309: the conditions under which a request is served,
the request a command stands for, the encoder of request payloads, runs of commands, and the conditions
that every state of a run is to meet. -/

namespace Sys2Proof

/-- The request a command stands for, if it stands for one. -/
def Instr.request : Instr → Option Machine.Request
  | .unknownKindRequest kind tag p => some { kind := kind, tag := tag, payload := p }
  | .configure tag p => some { kind := 0x01, tag := tag, payload := p }
  | .readConfig tag p => some { kind := 0x02, tag := tag, payload := p }
  | .start tag p => some { kind := 0x03, tag := tag, payload := p }
  | .stop tag p => some { kind := 0x04, tag := tag, payload := p }
  | .clearHalt tag p => some { kind := 0x05, tag := tag, payload := p }
  | .reference tag p => some { kind := 0x06, tag := tag, payload := p }
  | .bypassCell tag p => some { kind := 0x07, tag := tag, payload := p }
  | .returnCell tag p => some { kind := 0x08, tag := tag, payload := p }
  | .readCell tag p => some { kind := 0x09, tag := tag, payload := p }
  | .readCells tag p => some { kind := 0x0A, tag := tag, payload := p }
  | .routeSet tag p => some { kind := 0x0B, tag := tag, payload := p }
  | .routeRead tag p => some { kind := 0x0C, tag := tag, payload := p }
  | .extSet tag p => some { kind := 0x0D, tag := tag, payload := p }
  | .planPut tag p => some { kind := 0x0E, tag := tag, payload := p }
  | .planDrop tag p => some { kind := 0x0F, tag := tag, payload := p }
  | .planList tag p => some { kind := 0x10, tag := tag, payload := p }
  | .planClear tag p => some { kind := 0x11, tag := tag, payload := p }
  | .readEpisode tag p => some { kind := 0x12, tag := tag, payload := p }
  | .takeNotices tag p => some { kind := 0x13, tag := tag, payload := p }
  | .noticeMask tag p => some { kind := 0x14, tag := tag, payload := p }
  | .readStatus tag p => some { kind := 0x15, tag := tag, payload := p }
  | .linkReset tag p => some { kind := 0x16, tag := tag, payload := p }
  | .deviceReset _ _ => none
  | .resetEnd _ _ _ _ => none
  | .framingError => none
  | .frameLengthReject _ => none
  | .interbyteGapTimeout => none
  | .frameComplete _ => none
  | .transmitBegin => none
  | .transmitComplete => none
  | .beat => none
  | .rampCompletion => none
  | .statusFrameGood _ _ => none
  | .statusFrameBad _ _ => none
  | .answerMissing _ => none
  | .extLineSample _ _ => none
  | .feedbackSample _ _ => none
  | .bypassTimeout _ => none
  | .returnOperationTimeout _ => none
  | .gateCompletion => none
  | .settleExpiry => none
  | .windowExpiry => none
  | .handoverExpiry => none
  | .supervisionExpiry => none
  | .encoderSample _ _ => none
  | .receiveByte _ => none

end Sys2Proof

namespace Sys2Proof.Machine

/-! ## Commands and requests -/

/-- The part is not in a device reset, and a request that completes now is served at once (R152). -/
def State.canServe (s : State) : Prop :=
  s.inReset = false ∧ s.link.requests = [] ∧ s.link.replies.length < 2

/-- The state with one more reply at the tail of the reply queue. -/
def State.answered (k tag : Byte) (a : Answer) (s : State) : State :=
  s.pushReply { kind := k, tag := tag, payload := [] } a

/-- The low `k` bytes of a number, most significant first (R176). -/
def bigEndian (k n : Nat) : List Byte := (List.range k).reverse.map fun j => BitVec.ofNat 8 (n / 256 ^ j)

/-- One item of a request payload: the field id and the value in the bytes the kind gives it (R177). -/
def itemBytes (k : RequestKind) (x : Nat × Nat) : List Byte :=
  byte1 x.1 ++ (if fieldSize k x.1 = some 2 then byte2 x.2 else byte1 x.2)

/-- The payload of a request with the given items (R177). -/
def payloadOf (k : RequestKind) (q : Items) : List Byte := q.flatMap (itemBytes k)

/-- Items a payload of the kind can carry: each id is in the kind's row, no id stands twice, and each value
fits its size (R177). -/
def itemsFit (k : RequestKind) (q : Items) : Prop :=
  (q.map (·.1)).Nodup ∧ ∀ x ∈ q, ∃ n, fieldSize k x.1 = some n ∧ x.2 < 256 ^ n

/-- A payload that a frame can hold carries these items of the kind (R148, R177). -/
def carries (k : RequestKind) (p : List Byte) (q : Items) : Prop :=
  itemsOf k p = some q ∧ p.length ≤ Config.maxPayload

/-- Commands executed one after another. -/
def execAll : List Instr → State → Host.Outcome State Fault Refusal
  | [], s => .next s
  | i :: rest, s =>
    match exec i s with
    | .next t => execAll rest t
    | .fault f => .fault f
    | .refused r => .refused r

/-! ## Conditions on every state -/

/-- The drive state is UNCONFIGURED exactly while N is absent (R129, R169), and RIDING exactly while an episode
is open (R63). -/
def ModeSound (s : State) : Prop :=
  (s.drive.state = .unconfigured ↔ s.config.n = none) ∧
  s.episode.current.isSome = decide (s.drive.state = .riding)

/-- The queues of the control link hold at most what R150, R151 and R152 allow, and a request waits only
while the reply queue is full (R152). -/
def LinkBounded (s : State) : Prop :=
  s.link.requests.length ≤ 4 ∧ s.link.replies.length ≤ 2 ∧
  (s.link.requests ≠ [] → s.link.replies.length = 2) ∧ s.link.discarded ≤ 255

/-- The notice queue holds at most 16 notices, its settings lie in their ranges, and ATTN stands at the level
the queue calls for (R160, R162, R163). -/
def NoticesBounded (s : State) : Prop :=
  s.notices.items.length ≤ 16 ∧ s.notices.overflow ≤ 255 ∧
  1 ≤ s.notices.threshold ∧ s.notices.threshold ≤ 16 ∧ s.outputs.attn = s.notices.attn

/-- What stands exactly in one drive state: the two protective lines (R130, R131), the open episode (R63),
the halt cause (R142), the supervision timer (R139) and the running gate (R110); and the reference in force,
which stands only in RUNNING (R136). -/
structure LinesFollowDrive (s : State) : Prop where
  brake : s.outputs.brkDemand = s.drive.state.brakes
  ride : s.outputs.rideActive = decide (s.drive.state = .riding)
  episode : s.episode.current.isSome = decide (s.drive.state = .riding)
  haltCause : s.drive.haltCause.isSome = decide (s.drive.state = .halted)
  supervision : s.drive.supervision.isSome = decide (s.drive.state = .running)
  gate : s.speed.gate.isSome = decide (s.drive.state ≠ .unconfigured)
  reference : s.drive.reference.isSome = true → s.drive.state = .running

/-- A slot's pulse lines and pulse operation stand as its state has them (R4, R5), its carrier offset is
present only in ACTIVE (R22), its pending fault only in ACTIVE or PARKED (R21), and the group of characters of
a status frame not yet whole holds fewer than six (R178). -/
def SlotRecord.Consistent (r : SlotRecord) : Prop :=
  r.contactor.closeLine = decide (r.state = .bypassing) ∧
  r.contactor.openLine = decide (r.state = .returning) ∧
  r.contactor.pulse.map (·.kind) =
    (match r.state with
     | .bypassing => some .close
     | .returning => some .opening
     | _ => none) ∧
  (r.offset.isSome = true → r.state = .active) ∧
  (r.fault.pending.isSome = true → r.state.candidate = true) ∧
  r.link.group.length < 6

/-- Every slot record is consistent, and exactly the slots at positions above N are ABSENT (R1, R16). -/
def SlotsConsistent (s : State) : Prop :=
  ModeSound s ∧
  ∀ i, (s.slot i).Consistent ∧ ((s.slot i).state = .absent ↔ s.configured i = false)

/-- Every parameter lies in its range (R169). -/
structure ConfigInRange (c : Config) : Prop where
  n : ∀ n, c.n = some n → 2 ≤ n ∧ n ≤ 9
  period : 5000 ≤ c.period ∧ c.period ≤ 50000
  linkLoss : 2 ≤ c.linkLoss ∧ c.linkLoss ≤ 16
  vTrip : 100 ≤ c.vTrip ∧ c.vTrip ≤ 1500
  vRelease : 100 ≤ c.vRelease ∧ c.vRelease ≤ 1500
  bypassTimeout : 10 ≤ c.bypassTimeout ∧ c.bypassTimeout ≤ 200
  settle : c.settle ≤ 20
  window : 50 ≤ c.window ∧ c.window ≤ 1000
  ramp : 10 ≤ c.ramp ∧ c.ramp ≤ 500
  handover : 10 ≤ c.handover ∧ c.handover ≤ 200
  supervision : 5 ≤ c.supervision ∧ c.supervision ≤ 500
  minCells : 1 ≤ c.minCells ∧ c.minCells ≤ c.n.getD 2
  fMax : 1 ≤ c.fMax ∧ c.fMax ≤ 6
  encoderLines : 256 ≤ c.encoderLines ∧ c.encoderLines ≤ 16384
  polePairs : 1 ≤ c.polePairs ∧ c.polePairs ≤ 16
  gate : c.gate = 2 ∨ c.gate = 5 ∨ c.gate = 10 ∨ c.gate = 20
  fRated : 500 ≤ c.fRated ∧ c.fRated ≤ 10000
  boost : c.boost ≤ 100
  fLimit : 100 ≤ c.fLimit ∧ c.fLimit ≤ 12000
  fOver : 100 ≤ c.fOver ∧ c.fOver ≤ 15000
  runaway : 10 ≤ c.runaway ∧ c.runaway ≤ 2000

/-- The configuration is in range, and N stands from the first CONFIGURE on (R169, R170). -/
def ConfigSound (s : State) : Prop := ModeSound s ∧ ConfigInRange s.config

/-- A plan entry's fields lie in their ranges for N (R94). -/
def PlanEntry.InRange (n : Nat) (e : PlanEntry) : Prop :=
  (1 ≤ e.key.a ∧ e.key.a ≤ n) ∧ (1 ≤ e.key.b ∧ e.key.b ≤ n) ∧ (1 ≤ e.key.c ∧ e.key.c ≤ n) ∧
  e.lagB ≤ 3599 ∧ e.lagC ≤ 3599 ∧ ratioFloor e.key.smallest n ≤ e.r ∧ e.r ≤ 1000

/-- The plan table holds at most 32 entries in ascending order of key, no key twice, each in range for N
(R94, R95). -/
def PlansSound (s : State) : Prop :=
  ModeSound s ∧ s.plans.length ≤ 32 ∧
  s.plans.Pairwise (fun e f => e.key.before f.key = true) ∧ ∀ e ∈ s.plans, e.InRange s.n

/-- The open record stands as its phase has it (R62, R64, R66, R69, R80). -/
structure EpisodeRecord.Open (s : State) (e : EpisodeRecord) : Prop where
  number : 1 ≤ e.number ∧ e.number ≤ 65535
  undecided : e.outcome = none ∧ e.closed = none
  involved : 1 ≤ e.involved.length ∧ e.involved.length ≤ s.config.fMax
  once : (e.involved.map (·.slot)).Nodup
  listed : ∀ v ∈ e.involved, (s.slot v.slot).state = .faulted ∨ (s.slot v.slot).state = .bypassing ∨
    (s.slot v.slot).state = .bypassed ∨ (s.slot v.slot).state = .stuck
  passed : e.phase ≠ .plan
  capture : e.capture.isSome = (decide (e.phase = .magnetize) || decide (e.phase = .handover))
  plan : e.phase ≠ .isolate → e.phase ≠ .bypass → e.plan.isSome = true
  settle : s.episode.settle.isSome = decide (e.phase = .isolate)
  window : s.episode.window.isSome = decide (e.phase ≠ .handover)
  handover : s.episode.handover.isSome = decide (e.phase = .handover)

/-- A closed record has an outcome, a closed time and an involved cell; a RESTORED one has its plan and its
capture, and its phase is HANDOVER (R91). -/
def EpisodeRecord.Closed (e : EpisodeRecord) : Prop :=
  e.outcome.isSome = true ∧ e.closed.isSome = true ∧ e.involved ≠ [] ∧
  (e.outcome = some .restored → e.plan.isSome = true ∧ e.capture.isSome = true ∧ e.phase = .handover)

/-- The episode controller's records: the open record stands exactly in RIDING and as its phase has it, with
no timer running outside an episode, and the history holds at most four closed records (R63, R66, R90, R91). -/
structure EpisodesSound (s : State) : Prop where
  capacity : 1 ≤ s.config.fMax
  riding : s.episode.current.isSome = decide (s.drive.state = .riding)
  counter : s.episode.counter ≤ 65535
  opened : ∀ e, s.episode.current = some e → e.Open s
  idle : s.episode.current = none →
    s.episode.settle = none ∧ s.episode.window = none ∧ s.episode.handover = none
  history : s.episode.history.length ≤ 4
  closed : ∀ e ∈ s.episode.history, e.Closed

/-- The applied magnitude never exceeds the committed plan's r (R124): it is at most r, and what it will be
taken from, the reference in force, the captured target and the ramp, is at most r as well. -/
structure MagnitudeSound (s : State) : Prop where
  riding : s.episode.current.isSome = decide (s.drive.state = .riding)
  running : s.drive.reference.isSome = true → s.drive.state = .running
  applied : s.mod.mag ≤ s.ratio
  reference : ∀ r, s.drive.reference = some r → r.mag ≤ s.ratio
  capture : ∀ e c, s.episode.current = some e → e.capture = some c →
    c.ut ≤ s.ratio ∧ (e.phase = .magnetize ∨ e.phase = .handover)
  blocked : ∀ e, s.episode.current = some e → e.capture = none → s.mod.mag = 0
  ramp : s.phase = some .magnetize → s.mod.rampPos ≤ rampBeats s.config

end Sys2Proof.Machine
end

