-- ==== Sys2Proof/Certificates/Slice0/Obligations.lean ====
section
/-! DEFINITION. The statements about the FR-309, taken from the manual's numbered rules. Each names the
rules or sections it formalises; a statement that rests on a choice of the model says so and names the log
entry. -/

open Sys2Proof Sys2Proof.Machine

/-! ## The block and its queue of commands -/

/-- A step takes the command at the front of the queue and runs it with the queue's rest. -/
def Obligations.StepRunsTheFrontCommand : Prop :=
  ∀ (c : Instr) (rest : List Instr) (s : State),
    s.pending = c :: rest → step s = exec c { s with pending := rest }

/-- With no command waiting, part time advances by a microsecond and exactly the events that have come due
wait in its place (the model's choice, log entry 4): the beat each 100 µs (R25), the ramp's completion that
has been handed on or that the beat due now hands on (R119; log entry 4), the timers' expiries (R66, R139),
the missing answer of each window closed without one (R30; log entry 11), the pulse timeouts (R5), the gate's completion (R110), the inter-byte gap (R148)
and the transmitter's next (R154). The command of a timer's expiry, a pulse timeout, a gate's completion, a
gap or a sent frame whose time has not been reached, or that has nothing to end, changes nothing (log entry
7). A beat or a sample commanded before its moment first moves part time up to it (log entry 4). -/
def Obligations.PartTimeBringsTheEvents : Prop :=
  (∀ s : State, s.pending = [] →
    (s.inReset = true → step s = .next s) ∧
    (s.inReset = false → ∃ l,
      step s = .next { s with partTime := s.partTime + 1, pending := l } ∧
      (∀ c ∈ l, c ∈ [Instr.beat, .rampCompletion, .settleExpiry, .windowExpiry, .handoverExpiry,
          .supervisionExpiry, .gateCompletion, .interbyteGapTimeout, .transmitBegin, .transmitComplete] ∨
        ∃ i, c = .answerMissing i ∨ c = .bypassTimeout i ∨ c = .returnOperationTimeout i) ∧
      (.beat ∈ l ↔ 100 ≤ (s.partTime + 1 - s.beatAt).toNat) ∧
      (.rampCompletion ∈ l ↔ s.mod.rampDone = true ∨ (100 ≤ (s.partTime + 1 - s.beatAt).toNat ∧
        s.drive.state = .riding ∧ (∃ e, s.episode.current = some e ∧ e.phase = .magnetize) ∧
        10 * s.config.ramp ≤ s.mod.rampPos)) ∧
      (.settleExpiry ∈ l ↔ ∃ t, s.episode.settle = some t ∧ t.length ≤ (s.partTime + 1 - t.start).toNat) ∧
      (.windowExpiry ∈ l ↔ ∃ t, s.episode.window = some t ∧ t.length ≤ (s.partTime + 1 - t.start).toNat) ∧
      (.handoverExpiry ∈ l ↔
        ∃ t, s.episode.handover = some t ∧ t.length ≤ (s.partTime + 1 - t.start).toNat) ∧
      (.supervisionExpiry ∈ l ↔
        ∃ t, s.drive.supervision = some t ∧ t.length ≤ (s.partTime + 1 - t.start).toNat) ∧
      (.gateCompletion ∈ l ↔
        ∃ g, s.speed.gate = some g ∧ 1000 * g.length ≤ (s.partTime + 1 - g.start).toNat) ∧
      (.interbyteGapTimeout ∈ l ↔
        ∃ b t, s.link.rx = .assembling b t ∧ 1000 < (s.partTime + 1 - t).toNat) ∧
      (.transmitBegin ∈ l ↔ s.link.tx = none ∧ (s.link.refusal.isSome = true ∨ s.link.replies ≠ [])) ∧
      (.transmitComplete ∈ l ↔ ∃ x, s.link.tx = some x ∧
        lineTime s.link.rate x.bytes.length ≤ (s.partTime + 1 - x.start).toNat) ∧
      ∀ i,
        l.count (.answerMissing i) = (s.slot i).link.owed ∧
        (.bypassTimeout i ∈ l ↔ ∃ p, (s.slot i).contactor.pulse = some p ∧ p.kind = .close ∧
          1000 * p.timeout ≤ (s.partTime + 1 - p.asserted).toNat) ∧
        (.returnOperationTimeout i ∈ l ↔ ∃ p, (s.slot i).contactor.pulse = some p ∧ p.kind = .opening ∧
          1000 * p.timeout ≤ (s.partTime + 1 - p.asserted).toNat))) ∧
  (∀ s : State, s.inReset = false →
    let idle (c : Instr) : Prop := exec c s = .next s
    let due (o : Option Timer) : Prop := ∃ t, o = some t ∧ t.length ≤ (s.partTime - t.start).toNat
    (¬due s.episode.settle → idle .settleExpiry) ∧ (¬due s.episode.window → idle .windowExpiry) ∧
    (¬due s.episode.handover → idle .handoverExpiry) ∧
    (¬due s.drive.supervision → idle .supervisionExpiry) ∧
    ((¬∃ g, s.speed.gate = some g ∧ 1000 * g.length ≤ (s.partTime - g.start).toNat) →
      idle .gateCompletion) ∧
    ((¬∃ b t, s.link.rx = .assembling b t ∧ 1000 < (s.partTime - t).toNat) → idle .interbyteGapTimeout) ∧
    ((¬∃ x, s.link.tx = some x ∧ lineTime s.link.rate x.bytes.length ≤ (s.partTime - x.start).toNat) →
      idle .transmitComplete) ∧
    ∀ i, (¬∃ p, (s.slot i).contactor.pulse = some p ∧
        1000 * p.timeout ≤ (s.partTime - p.asserted).toNat) →
      idle (.bypassTimeout i) ∧ idle (.returnOperationTimeout i)) ∧
  ∀ s : State, s.inReset = false →
    let moved (start : PartTime) : State :=
      if (s.partTime - start).toNat < 100 then { s with partTime := start + 100 } else s
    exec .beat s = exec .beat (moved s.beatAt) ∧
    (∀ i high, exec (.feedbackSample i high) s =
      exec (.feedbackSample i high) (moved (s.slot i).contactor.sampledAt)) ∧
    ∀ l mv, s.config.n ≠ none → (s.line l).enable = true →
      exec (.extLineSample l mv) s = exec (.extLineSample l mv) (moved (s.line l).sampledAt)

/-- No command stops the part: each answers a next state. That the waiting commands stand, and that while a
device reset lasts no command but DEVICE_RESET and RESET_END changes anything, is the model's reading of R128,
R155 and R179, which give the blocks their reset values until it ends (log entry 6). -/
def Obligations.EveryCommandCompletes : Prop :=
  ∀ (c : Instr) (s : State),
    (∃ t, exec c s = .next t ∧ t.pending = s.pending) ∧
    (s.inReset = true → (∀ mv rn, c ≠ .deviceReset mv rn) → (∀ mv rn a b, c ≠ .resetEnd mv rn a b) →
      exec c s = .next s)

/-! ## Device reset -/

/-- A device reset is taken while the supply is below 2.95 V or RESET_N is low, and puts every block at the
values its chapter gives (R2, R36, R45, R46, R63, R92, R95, R106, R111, R127, R128, R155, R166, R169, R179).
The model's choices in it are that part time stands at 0 through the reset, that the waiting commands stand
and that other levels change nothing (log entry 6), that the strap rate stands (log entry 1), the values of
the model's own fields, beatAt, the sampling times, the run start, the answer window, the frame last sent and
the ramp's handed-on completion (log entry 19), and that the count of free readings stands (log entry 23). -/
def Obligations.DeviceResetRestoresEveryBlock : Prop :=
  ∀ (mv : Nat) (rn : Bool) (s : State),
    (2950 ≤ mv → rn = true → exec (.deviceReset mv rn) s = .next s) ∧
    (mv < 2950 ∨ rn = false → ∃ t, exec (.deviceReset mv rn) s = .next t ∧
      t.inReset = true ∧ t.partTime = 0 ∧ t.beatAt = 0 ∧ t.freeReadings = s.freeReadings ∧
      t.pending = s.pending ∧
      t.drive = { state := .unconfigured, supervision := none, reference := none, haltCause := none } ∧
      t.outputs = { brkDemand := true, rideActive := false, attn := false } ∧
      (∀ i, (t.slot i).state = .absent ∧
        (t.slot i).fault = { pending := none, last := none, count := 0, noted := none } ∧
        (t.slot i).link = { up := false, missing := 0, bus := 0, code := 0, echo := 0, busLow := false } ∧
        (t.slot i).contactor =
          { feedback := .opened, run := 0, closeLine := false, openLine := false, pulse := none,
            lastClose := none, lastOpen := none } ∧
        (t.slot i).offset = none) ∧
      (∀ l, t.line l =
        { enable := false, polarity := .activeHigh,
          fault := { pending := none, last := none, count := 0, noted := none } }) ∧
      (∀ k : Fin 8, t.windows[k] =
        { enabled := false, value := 0, mask := 0, action := .ignore, kind := .level, q := 1 }) ∧
      t.plans = [] ∧ t.committed = none ∧ t.sync = 0 ∧
      t.episode =
        { current := none, settle := none, window := none, handover := none, counter := 0,
          history := [] } ∧
      t.speed =
        { held := none, gate := none,
          last := { f := 0, count := 0, valid := false, saturated := false, time := 0 } } ∧
      t.mod = { theta := 0, mag := 0, freq := 0, rampPos := 0, rampDone := false } ∧
      t.notices = { items := [], mask := 0b111111, threshold := 1, overflow := 0 } ∧
      t.link =
        { rate := s.link.rate, rx := .hunting, requests := [], refusal := none, replies := [],
          tx := none, discarded := 0 } ∧
      t.config =
        { n := none, period := 10000, linkLoss := 4, vTrip := 700, vRelease := 820,
          bypassTimeout := 60, settle := 5, window := 400, ramp := 80, handover := 50,
          supervision := 20, minCells := 2, fMax := 3, encoderLines := 2048, polePairs := 2,
          gate := 10, fRated := 5000, boost := 20, fLimit := 6000, fOver := 5750, runaway := 300 })

/-- A device reset ends once the supply is above 3.05 V with RESET_N high, and the straps read then give the
rate of the control link (R147, R179). -/
def Obligations.ResetEndReadsTheRateStraps : Prop :=
  ∀ (mv : Nat) (rn a b : Bool) (s : State),
    (s.inReset = true → 3050 < mv → rn = true →
      exec (.resetEnd mv rn a b) s = .next { s with
        inReset := false
        link := { s.link with
          rate := if a then (if b then .b2000000 else .b921600) else (if b then .b460800 else .b115200) } }) ∧
    (s.inReset = false ∨ mv ≤ 3050 ∨ rn = false → exec (.resetEnd mv rn a b) s = .next s)

/-- The state right after a device reset meets every condition that the invariants below keep. -/
def Obligations.ResetStateIsSound : Prop :=
  LinkBounded State.reset ∧ NoticesBounded State.reset ∧ LinesFollowDrive State.reset ∧
  SlotsConsistent State.reset ∧ ConfigSound State.reset ∧ PlansSound State.reset ∧
  EpisodesSound State.reset ∧ MagnitudeSound State.reset

/-! ## Invariants -/

/-- Every step keeps the link's queues and the notice queue within their capacities, the discarded-frame
counter and the overflow count within 255, ATTN at the level the notice queue calls for, and a request
waiting only while the reply queue is full (R150, R151, R152, R160, R161, R162). -/
def Obligations.QueuesStayBounded : Prop :=
  ∀ s t : State, LinkBounded s → NoticesBounded s → step s = .next t → LinkBounded t ∧ NoticesBounded t

/-- Every step keeps BRK_DEMAND asserted exactly in UNCONFIGURED and HALTED, RIDE_ACTIVE and an open episode
exactly in RIDING, a halt cause exactly in HALTED, the supervision timer running exactly in RUNNING, a gate
running exactly from the first CONFIGURE on, and the reference in force only in RUNNING (R63, R110, R130,
R131, R136, R139, R142). -/
def Obligations.ProtectiveLinesFollowTheDriveState : Prop :=
  ∀ s t : State, LinesFollowDrive s → step s = .next t → LinesFollowDrive t

/-- Every step keeps the close pulse asserted exactly in BYPASSING and the open pulse exactly in RETURNING,
with the pulse operation of that kind, a carrier offset only in ACTIVE, a pending fault only in ACTIVE or
PARKED, fewer than six characters in a status frame's group, and exactly the slots at positions above N ABSENT
(R1, R4, R5, R16, R21, R22, R178). -/
def Obligations.SlotRecordsStayConsistent : Prop :=
  ∀ s t : State, SlotsConsistent s → step s = .next t → SlotsConsistent t

/-- Every step keeps every parameter in its range and N in force from the first CONFIGURE on (R129, R169,
R170). -/
def Obligations.ConfigurationStaysInRange : Prop :=
  ∀ s t : State, ConfigSound s → step s = .next t → ConfigSound t

/-- Every step keeps the plan table at no more than 32 entries in ascending key order, no key twice, each
entry in range for N (R94, R95). -/
def Obligations.PlanTableStaysSound : Prop :=
  ∀ s t : State, PlansSound s → step s = .next t → PlansSound t

/-- Every step keeps the open record as its phase has it, its involved list between one and F_max entries
with no slot twice, its timers those of its phase, and at most four closed records in the history, each with
its outcome (R62, R63, R64, R66, R90, R91). -/
def Obligations.EpisodeRecordsStaySound : Prop :=
  ∀ s t : State, EpisodesSound s → step s = .next t → EpisodesSound t

/-- Every step keeps the applied magnitude, the reference's, the captured target and so the ramp at or below
the committed plan's r (R124). -/
def Obligations.AppliedMagnitudeNeverExceedsR : Prop :=
  ∀ s t : State, MagnitudeSound s → step s = .next t → MagnitudeSound t

/-! ## The control link -/

/-- The receiver passes over bytes until a start byte, and then takes each byte as the next of the frame. A
length byte above 240 discards the frame. The last check byte completes it: with the right CRC the frame is
offered to the request queue, with another it is discarded. The receiver hunts again after each, and a
discarded frame is counted, up to 255 (R148, R149, R151). -/
def Obligations.ReceiverAssemblesFrames : Prop :=
  ∀ (b : Byte) (s : State), s.inReset = false →
    let discarded : State := { s with link := { s.link with
      rx := .hunting, discarded := min 255 (s.link.discarded + 1) } }
    (s.link.rx = .hunting → b ≠ 0xC3 → exec (.receiveByte b) s = .next s) ∧
    (s.link.rx = .hunting → b = 0xC3 →
      exec (.receiveByte b) s = .next { s with link := { s.link with rx := .assembling [] s.partTime } }) ∧
    (∀ t, s.link.rx = .assembling [] t → b.toNat ≤ 240 →
      exec (.receiveByte b) s = .next { s with link := { s.link with rx := .assembling [b] s.partTime } }) ∧
    (∀ t, s.link.rx = .assembling [] t → 240 < b.toNat → exec (.receiveByte b) s = .next discarded) ∧
    (∀ len rest t, s.link.rx = .assembling (len :: rest) t → len.toNat ≤ 240 →
      rest.length < len.toNat + 3 →
      exec (.receiveByte b) s =
        .next { s with link := { s.link with rx := .assembling (len :: rest ++ [b]) s.partTime } }) ∧
    ∀ len kind tag rest t, s.link.rx = .assembling (len :: kind :: tag :: rest) t → len.toNat ≤ 240 →
      rest.length = len.toNat + 1 →
      (rest.drop len.toNat ++ [b] = byte2Of (crc16 (len :: kind :: tag :: rest.take len.toNat)) →
        exec (.receiveByte b) s = .next ({ s with link := { s.link with rx := .hunting } }.arrive
          { kind := kind, tag := tag, payload := rest.take len.toNat })) ∧
      (rest.drop len.toNat ++ [b] ≠ byte2Of (crc16 (len :: kind :: tag :: rest.take len.toNat)) →
        exec (.receiveByte b) s = .next discarded)

/-- The last check byte completes the frame: with the right CRC it is offered to the request queue, with
another it is discarded and counted (R148, R149, R151). A frame whose length byte is above 240, in which a
character is framed wrongly, or after a byte of which more than 1 ms has passed is abandoned and counted;
outside a frame a framing error changes nothing (R147, R148, R149). -/
def Obligations.FramesAreJudgedOrAbandoned : Prop :=
  ∀ s : State, s.inReset = false →
    (∀ b len kind tag rest t, s.link.rx = .assembling (len :: kind :: tag :: rest) t →
      len.toNat ≤ 240 → rest.length = len.toNat + 1 →
      (rest.drop len.toNat ++ [b] = byte2Of (crc16 (len :: kind :: tag :: rest.take len.toNat)) →
        exec (.frameComplete b) s = .next ({ s with link := { s.link with rx := .hunting } }.arrive
          { kind := kind, tag := tag, payload := rest.take len.toNat })) ∧
      (rest.drop len.toNat ++ [b] ≠ byte2Of (crc16 (len :: kind :: tag :: rest.take len.toNat)) →
        exec (.frameComplete b) s = .next { s with link := { s.link with
          rx := .hunting, discarded := min 255 (s.link.discarded + 1) } })) ∧
    (∀ len t, s.link.rx = .assembling [] t → 240 < len.toNat →
      exec (.frameLengthReject len) s = .next { s with link := { s.link with
        rx := .hunting, discarded := min 255 (s.link.discarded + 1) } }) ∧
    (∀ bytes t, s.link.rx = .assembling bytes t →
      exec .framingError s = .next { s with link := { s.link with
        rx := .hunting, discarded := min 255 (s.link.discarded + 1) } }) ∧
    (∀ bytes t, s.link.rx = .assembling bytes t → 1000 < (s.partTime - t).toNat →
      exec .interbyteGapTimeout s = .next { s with link := { s.link with
        rx := .hunting, discarded := min 255 (s.link.discarded + 1) } }) ∧
    (s.link.rx = .hunting → exec .framingError s = .next s)

/-- The bytes of a frame, taken one by one by a hunting receiver, bring exactly the frame's kind, tag and
payload to the request queue (R148, R149, R151). -/
def Obligations.FrameBytesArriveAsTheRequest : Prop :=
  ∀ (kind tag : Byte) (payload : List Byte) (s : State),
    payload.length ≤ 240 → s.inReset = false → s.link.rx = .hunting →
    execAll ((frameBytes kind tag payload).map .receiveByte) s =
      .next (s.arrive { kind := kind, tag := tag, payload := payload })

/-- The free transmitter begins the BUSY refusal if the slot is occupied, else the oldest reply, else
nothing. A refusal sent empties its slot; a reply sent leaves the reply queue, and the head request is
served in that step (R152, R154). -/
def Obligations.TransmitterSendsRefusalsFirst : Prop :=
  ∀ s : State, s.inReset = false →
    (∀ b, s.link.tx = none → s.link.refusal = some b →
      exec .transmitBegin s = .next { s with link := { s.link with
        tx := some { source := .busy, bytes := frameBytes b.kind b.tag [1], start := s.partTime } } }) ∧
    (∀ r rest, s.link.tx = none → s.link.refusal = none → s.link.replies = r :: rest →
      exec .transmitBegin s = .next { s with link := { s.link with
        tx := some { source := .reply, bytes := frameBytes r.kind r.tag (answerBytes r.answer),
                     start := s.partTime } } }) ∧
    (s.link.tx = none → s.link.refusal = none → s.link.replies = [] →
      exec .transmitBegin s = .next s) ∧
    (∀ x, s.link.tx = some x → exec .transmitBegin s = .next s) ∧
    (∀ x, s.link.tx = some x → lineTime s.link.rate x.bytes.length ≤ (s.partTime - x.start).toNat →
      (x.source = .busy →
        exec .transmitComplete s = .next { s with link := { s.link with tx := none, refusal := none } }) ∧
      (∀ r rest, x.source = .reply → s.link.replies = r :: rest → s.link.requests = [] →
        exec .transmitComplete s = .next { s with link := { s.link with tx := none, replies := rest } }) ∧
      (∀ r rest q more, x.source = .reply → s.link.replies = r :: rest → rest.length < 2 →
        s.link.requests = q :: more →
        let t : State := { s with link := { s.link with tx := none, replies := rest, requests := more } }
        exec .transmitComplete s = .next ((serveRequest q t).1.answered q.kind q.tag (serveRequest q t).2)))

/-- A request that completes while the reply queue is full joins the request queue if it holds fewer than 4,
else leaves a BUSY refusal in an empty refusal slot, else is dropped and counted. One that completes with
nothing in its way is served at once: its kind is checked, then its fields, then by the block that owns the
kind; a kind byte of 0 or above 0x16 is refused UNKNOWN_KIND (R151, R152, R153; the serving in the step of
completion is log entry 3). -/
def Obligations.RequestsAreQueuedOrServed : Prop :=
  (∀ (c : Instr) (r : Request) (s : State),
    c.request = some r → r.payload.length ≤ 240 → s.inReset = false →
    (s.link.replies.length = 2 → s.link.requests.length < 4 →
      exec c s = .next { s with link := { s.link with requests := s.link.requests ++ [r] } }) ∧
    (s.link.replies.length = 2 → s.link.requests.length = 4 → s.link.refusal = none →
      exec c s = .next { s with link := { s.link with
        refusal := some { kind := r.kind, tag := r.tag } } }) ∧
    (s.link.replies.length = 2 → s.link.requests.length = 4 → s.link.refusal.isSome = true →
      exec c s = .next { s with link := { s.link with discarded := min 255 (s.link.discarded + 1) } }) ∧
    (s.canServe → kindOf r.kind = none →
      exec c s = .next (s.answered r.kind r.tag (.refused .unknownKind))) ∧
    (∀ k, s.canServe → kindOf r.kind = some k → itemsOf k r.payload = none →
      exec c s = .next (s.answered r.kind r.tag (.refused .length))) ∧
    (∀ k q, s.canServe → kindOf r.kind = some k → itemsOf k r.payload = some q →
      exec c s = .next ((serveKind k q s).1.answered r.kind r.tag (serveKind k q s).2))) ∧
  ∀ (kind tag : Byte) (p : List Byte) (s : State),
    s.canServe → p.length ≤ 240 → kind = 0 ∨ 0x16 < kind.toNat →
    exec (.unknownKindRequest kind tag p) s = .next (s.answered kind tag (.refused .unknownKind))

/-- A refused request of any kind has changed nothing (R153). -/
def Obligations.RefusedRequestChangesNothing : Prop :=
  ∀ (k : RequestKind) (q : Items) (s : State) (c : RefusalCause),
    (serveKind k q s).2 = .refused c → (serveKind k q s).1 = s

/-- A payload written from items of the kind, in any order, reads back as exactly those items (R176,
R177). -/
def Obligations.PayloadItemsRoundTrip : Prop :=
  ∀ (k : RequestKind) (q : Items), itemsFit k q → itemsOf k (payloadOf k q) = some q

/-- LINK_RESET empties the request queue behind it, the refusal slot unless its frame is being sent, and the
notice queue, and restores the mask, the threshold and the counts; its reply counts what it removed, and
nothing else changes (R157). That the reply's fields are items 1 to 3 is log entry 16. -/
def Obligations.LinkResetClearsTheLinkSide : Prop :=
  (∀ s : State, serveKind .linkReset [] s =
    ({ s with
      link := { s.link with
        requests := []
        refusal := if s.link.tx.map (·.source) = some .busy then s.link.refusal else none
        discarded := 0 }
      notices := { items := [], mask := 0b111111, threshold := 1, overflow := 0 }
      outputs := { s.outputs with attn := false } },
     .ok [1, BitVec.ofNat 8 s.link.requests.length,
          2, if s.link.tx.map (·.source) = some .busy then 0 else if s.link.refusal.isSome then 1 else 0,
          3, BitVec.ofNat 8 s.notices.items.length])) ∧
  (∀ (tag : Byte) (s : State), s.canServe →
    exec (.linkReset tag []) s =
      .next ((serveKind .linkReset [] s).1.answered 0x16 tag (serveKind .linkReset [] s).2))

/-- The reads are served in every drive state, answer from the state they find and change nothing but the
reply queue (R20, R49, R100, R156, R168, R175). A slot byte that names no slot is refused RANGE (R17), as is a
READ_CELL without one (log entry 9); so is a ROUTE_READ without a selector or with one that names no route and
no line (R49), a PLAN_LIST with a start above 31, which is 0 when absent (R100), and a READ_EPISODE with a
selector above 4; one without a selector is refused MISSING, and one that names no record NOT_FOUND (R167). That the unnamed bits
of the READ_CELLS bytes and of ROUTE_READ's presence byte are 0 is log entry 24. -/
def Obligations.ReadsAnswerAndChangeNothing : Prop :=
  ∀ (tag : Byte) (s : State), s.canServe →
    let cell (p : List Byte) (a : Answer) : Prop := exec (.readCell tag p) s = .next (s.answered 0x09 tag a)
    let route (p : List Byte) (a : Answer) : Prop :=
      exec (.routeRead tag p) s = .next (s.answered 0x0C tag a)
    let list (p : List Byte) (a : Answer) : Prop := exec (.planList tag p) s = .next (s.answered 0x10 tag a)
    let episode (p : List Byte) (a : Answer) : Prop :=
      exec (.readEpisode tag p) s = .next (s.answered 0x12 tag a)
    let listed (start : Nat) : Answer := .ok (BitVec.ofNat 8 s.plans.length ::
      BitVec.ofNat 8 ((s.plans.drop start).take 8).length ::
      ((s.plans.drop start).take 8).flatMap entryBytes)
    exec (.readConfig tag []) s = .next (s.answered 0x02 tag (.ok (configBytes s))) ∧
    exec (.readCells tag []) s = .next (s.answered 0x0A tag (.ok ((List.finRange 27).map fun i =>
      BitVec.ofNat 8 (slotStateCode (s.slot i).state + (if (s.slot i).link.up then 16 else 0) +
        (if (s.slot i).contactor.feedback = .closed then 32 else 0))))) ∧
    exec (.readStatus tag []) s = .next (s.answered 0x15 tag (.ok (statusBytes s))) ∧
    (∀ i : Slot, cell [1, BitVec.ofNat 8 (16 * (i.val / 9 + 1) + i.val % 9 + 1)]
      (.ok (cellBytes i (s.slot i)))) ∧
    (∀ v : Byte, v.toNat / 16 = 0 ∨ 3 < v.toNat / 16 ∨ v.toNat % 16 = 0 ∨ 9 < v.toNat % 16 →
      cell [1, v] (.refused (.range 1))) ∧
    cell [] (.refused (.range 1)) ∧
    (∀ k : Fin 8, route [1, BitVec.ofNat 8 k] (.ok (BitVec.ofNat 8 k :: 1 :: windowBytes s.windows[k]))) ∧
    route [1, 8] (.ok [8, 0, 0, 0, 0, 0, 0, 3, 1, 0]) ∧
    (∀ l : ExtLine, route [1, BitVec.ofNat 8 (16 + l)] (.ok (lineBytes l (s.line l)))) ∧
    (∀ v : Byte, 8 < v.toNat → v.toNat < 16 ∨ 19 < v.toNat → route [1, v] (.refused (.range 1))) ∧
    route [] (.refused (.range 1)) ∧
    (∀ start : Nat, start ≤ 31 → list [1, BitVec.ofNat 8 start] (listed start)) ∧ list [] (listed 0) ∧
    (∀ v : Byte, 31 < v.toNat → list [1, v] (.refused (.range 1))) ∧
    (∀ e, s.episode.current = some e → episode [1, 0] (.ok (episodeBytes e))) ∧
    (s.episode.current = none → episode [1, 0] (.refused .notFound)) ∧
    (∀ (j : Nat) e, j < 4 → s.episode.history[j]? = some e →
      episode [1, BitVec.ofNat 8 (j + 1)] (.ok (episodeBytes e))) ∧
    (∀ j : Nat, 1 ≤ j → j ≤ 4 → s.episode.history.length < j →
      episode [1, BitVec.ofNat 8 j] (.refused .notFound)) ∧
    (∀ v : Byte, 4 < v.toNat → episode [1, v] (.refused (.range 1))) ∧ episode [] (.refused (.missing 1))

/-- The fixed reply layouts, the notices and the command frame have the sizes and the contents chapter 12 gives
them: each field in its place and width, most significant byte first, a signed one in two's complement, an absent
one as zeros with its presence bit clear, and each enumeration, each result among them, by its number (R176,
R177). A notice is its kind, its part time and the body of its kind. A command frame is the mode and the
generation in one byte, four two-byte fields, a 0 byte and the CRC-8 of these ten (R178). The layouts of PLAN_PUT,
PLAN_DROP, PLAN_LIST, NOTICE_MASK and the header of TAKE_NOTICES stand in the statements of those requests. That a
bit no layout names is 0 is log entry 24. -/
def Obligations.ReplyLayoutsHaveTheirSizes : Prop :=
  let u8 (n : Nat) : List Byte := bigEndian 1 n
  let u16 (n : Nat) : List Byte := bigEndian 2 n
  let u32 (t : PartTime) : List Byte := bigEndian 4 t.toNat
  let i16 (f : Int) : List Byte := bigEndian 2 (f % 2 ^ 16).toNat
  let bit (k : Nat) (b : Bool) : Nat := if b then 2 ^ k else 0
  let slot (i : Slot) : List Byte := u8 (16 * (i.val / 9 + 1) + (i.val % 9 + 1))
  let opt16 (o : Option Nat) : List Byte := match o with | none => [0, 0] | some v => u16 v
  let code16 (o : Option Code) : List Byte := match o with | none => [0, 0] | some c => u16 c.toNat
  let pending (o : Option PendingFault) : List Byte := match o with
    | none => List.replicate 11 0
    | some p => u16 p.code.toNat ++ u8 p.route ++ u8 (routeKindCode p.kind) ++ u8 (actionCode p.action) ++
        u8 p.q ++ u8 p.count ++ u32 p.firstSeen
  let qualified (o : Option QualifiedFault) : List Byte := match o with
    | none => List.replicate 7 0
    | some q => u16 q.code.toNat ++ u8 (actionCode q.action) ++ u32 q.time
  let key (k : PlanKey) : List Byte := u8 k.a ++ u8 k.b ++ u8 k.c
  let source (x : PlanSource) : List Byte := match x with
    | .fallback => [0, 0, 0, 0]
    | .table k => [1] ++ key k
  (∀ s : State, (statusBytes s).length = 43 ∧ (startBytes s).length = 11 ∧
    (configBytes s).length = if s.config.n = none then 62 else 65) ∧
  (∀ i r, (cellBytes i r).length = 44) ∧ (∀ w, (windowBytes w).length = 8) ∧
  (∀ l r, (lineBytes l r).length = 25) ∧ (∀ e, (entryBytes e).length = 9) ∧
  (∀ n, (noticeBytes n).length ≤ 16) ∧ (∀ f, (commandBytes f).length = 11) ∧
  (∀ (e : EpisodeRecord), (episodeBytes e).length =
    12 + 7 * e.involved.length +
    (match e.plan with | none => 0 | some p => 14 + p.parked.length) +
    (if e.capture.isSome then 7 else 0) + (if e.outcome.isSome then 8 else 0)) ∧
  ([DriveState.unconfigured, .stopped, .running, .riding, .halted].map driveStateCode = [0, 1, 2, 3, 4] ∧
    [SlotState.absent, .active, .parked, .faulted, .bypassing, .bypassed, .returning, .stuck].map
      slotStateCode = [0, 1, 2, 3, 4, 5, 6, 7] ∧
    [EpisodePhase.isolate, .bypass, .plan, .recharge, .capture, .magnetize, .handover].map phaseCode =
      [1, 2, 3, 4, 5, 6, 7] ∧
    [Action.ignore, .note, .ride, .halt].map actionCode = [0, 1, 2, 3] ∧
    [RouteKind.level, .latched].map routeKindCode = [0, 1] ∧
    [Polarity.activeHigh, .activeLow].map polarityCode = [0, 1] ∧
    [InvolvedOutcome.pending, .bypassed, .stuck].map involvedOutcomeCode = [0, 1, 2] ∧
    [FailureCause.window, .bypassTimeout, .insufficientCells, .tooManyFaults, .haltFault, .overspeed,
      .runaway, .encoder, .bypassLost, .handoverTimeout, .aborted].map failureCode =
      [1, 2, 3, 4, 5, 6, 7, 8, 9, 10, 11]) ∧
  ([RefusalCause.busy, .unknownKind, .length, .state, .invalid, .full, .notFound, .cellNotReady,
      .insufficient, .moving].map (fun c => answerBytes (.refused c)) =
      [[1], [2], [3], [4], [7], [8], [9], [10], [11], [12]] ∧
    (∀ id, answerBytes (.refused (.range id)) = 5 :: u8 id ∧
      answerBytes (.refused (.missing id)) = 6 :: u8 id) ∧
    ∀ bytes, answerBytes (.ok bytes) = 0 :: bytes) ∧
  (∀ n : Notice, noticeBytes n = match n.body with
    | .cellState i old new cause =>
        [1] ++ u32 n.time ++ slot i ++ u8 (slotStateCode old) ++ u8 (slotStateCode new) ++ u16 cause.toNat
    | .faultNoted src code route => [2] ++ u32 n.time ++
        (match src with | .slot i => slot i | .line l => u8 (0x10 + l.val) | .speedUnit => [0x20]) ++
        u16 code.toNat ++ (match route with | none => [0xFF] | some k => u8 k)
    | .episodeOpened number i code f =>
        [3] ++ u32 n.time ++ u16 number ++ slot i ++ u16 code.toNat ++ i16 f
    | .restartReady number fr ut r fCeil reduced =>
        [4] ++ u32 n.time ++ u16 number ++ i16 fr ++ u16 ut ++ u16 r ++ u16 fCeil ++ u8 (bit 0 reduced)
    | .episodeClosed number none => [5] ++ u32 n.time ++ u16 number ++ [1, 0]
    | .episodeClosed number (some cause) =>
        [5] ++ u32 n.time ++ u16 number ++ [2] ++ u8 (failureCode cause)
    | .driveState new cause => [6] ++ u32 n.time ++ u8 (driveStateCode new) ++ u16 cause.toNat) ∧
  (∀ f : CommandFrame, commandBytes f =
    let body : List Byte :=
      u8 ((match f.mode with | .block => 0 | .zero => 1 | .run => 2) + 16 * f.generation.toNat) ++
      u16 f.index ++ u16 f.angle ++ u16 f.offset ++ u16 f.period ++ [0]
    body ++ [crc8 body]) ∧
  (crc8 [] = 0 ∧ ∀ (bytes : List Byte) (b : Byte), crc8 (bytes ++ [b]) =
    (List.range 8).foldl (fun c _ => if c.msb then (c <<< 1) ^^^ 0x07 else c <<< 1) (crc8 bytes ^^^ b)) ∧
  (∀ i r, cellBytes i r = slot i ++ u8 (slotStateCode r.state) ++
    u8 (bit 0 r.fault.pending.isSome + bit 1 r.fault.last.isSome + bit 2 r.fault.noted.isSome +
      bit 3 r.offset.isSome + bit 4 r.contactor.lastClose.isSome + bit 5 r.contactor.lastOpen.isSome) ++
    pending r.fault.pending ++ qualified r.fault.last ++ u8 r.fault.count ++ code16 r.fault.noted ++
    u8 (bit 0 r.link.up + bit 1 r.link.busLow + bit 2 (decide (r.contactor.feedback = .closed))) ++
    u8 r.link.missing ++ u16 r.link.bus ++ u16 r.link.code ++ u8 r.link.echo ++ opt16 r.offset ++
    opt16 r.contactor.lastClose ++ opt16 r.contactor.lastOpen ++
    (match r.contactor.pulse with
      | none => List.replicate 7 0
      | some p => u8 (if p.kind = .close then 1 else 2) ++ u32 p.asserted ++ u16 p.timeout)) ∧
  (∀ w, windowBytes w = u8 (bit 0 w.enabled) ++ u16 w.value.toNat ++ u16 w.mask.toNat ++
    u8 (actionCode w.action) ++ u8 (routeKindCode w.kind) ++ u8 w.q) ∧
  (∀ l r, lineBytes l r = u8 (0x10 + l.val) ++ u8 (bit 0 r.enable) ++ u8 (polarityCode r.polarity) ++
    u8 (bit 0 r.fault.pending.isSome + bit 1 r.fault.last.isSome + bit 2 r.fault.noted.isSome) ++
    pending r.fault.pending ++ qualified r.fault.last ++ u8 r.fault.count ++ code16 r.fault.noted) ∧
  (∀ e, entryBytes e = key e.key ++ u16 e.lagB ++ u16 e.lagC ++ u16 e.r) ∧
  (∀ s : State, configBytes s = [0] ++ u8 (driveStateCode s.drive.state) ++
    (match s.config.n with | none => [] | some n => [1] ++ u16 n) ++
    [(2, s.config.period), (3, s.config.linkLoss), (4, s.config.vTrip), (5, s.config.vRelease),
      (6, s.config.bypassTimeout), (7, s.config.settle), (8, s.config.window), (9, s.config.ramp),
      (10, s.config.handover), (11, s.config.supervision), (12, s.config.minCells), (13, s.config.fMax),
      (14, s.config.encoderLines), (15, s.config.polePairs), (16, s.config.gate), (17, s.config.fRated),
      (18, s.config.boost), (19, s.config.fLimit), (20, s.config.fOver),
      (21, s.config.runaway)].flatMap fun x : Nat × Nat => u8 x.1 ++ u16 x.2) ∧
  (∀ s : State, startBytes s = u8 (driveStateCode s.drive.state) ++
    (match s.committed with
      | none => List.replicate 9 0
      | some p => key p.fields.counts ++ u16 p.fields.r ++ source p.fields.source) ++ u8 s.sync.toNat) ∧
  (∀ s : State, statusBytes s = u8 (driveStateCode s.drive.state) ++
    u8 (bit 0 s.drive.haltCause.isSome + bit 1 s.episode.current.isSome + bit 2 s.committed.isSome) ++
    code16 s.drive.haltCause ++
    (match s.episode.current with
      | none => [0, 0, 0]
      | some e => u16 e.number ++ u8 (phaseCode e.phase)) ++
    (match s.committed with
      | none => List.replicate 16 0
      | some p => key p.fields.counts ++ u16 p.fields.lagB ++ u16 p.fields.lagC ++ u16 p.fields.r ++
          source p.fields.source ++ u8 p.fields.parked.length ++ u16 p.period) ++
    u8 s.sync.toNat ++ i16 s.speed.last.f ++ bigEndian 3 (s.speed.last.count % 2 ^ 24).toNat ++
    u8 (bit 0 s.speed.last.valid + bit 1 s.speed.last.saturated) ++ u32 s.speed.last.time ++
    u8 (bit 0 (s.drive.reference.any (·.limited)) + bit 1 (s.drive.reference.any (·.clamped))) ++
    u8 s.notices.items.length ++ u8 s.notices.overflow ++ u8 s.link.discarded ++
    u8 (bit 0 s.outputs.brkDemand + bit 1 s.outputs.rideActive + bit 2 s.outputs.attn) ++
    u32 s.partTime) ∧
  ∀ e : EpisodeRecord, episodeBytes e = u16 e.number ++ u32 e.opened ++ u8 (phaseCode e.phase) ++
    i16 e.fTrip ++ u8 e.reisolations ++
    u8 (bit 0 e.plan.isSome + bit 1 e.capture.isSome + bit 2 e.outcome.isSome) ++
    u8 e.involved.length ++
    (e.involved.flatMap fun v => slot v.slot ++ u16 v.code.toNat ++ u8 v.route ++
      (match v.closeTime with | none => [0xFF, 0xFF] | some x => u16 x) ++
      u8 (involvedOutcomeCode v.outcome)) ++
    (match e.plan with
      | none => []
      | some p => key p.counts ++ u16 p.lagB ++ u16 p.lagC ++ u16 p.r ++ source p.source ++
          u8 p.parked.length ++ p.parked.flatMap slot) ++
    (match e.capture with
      | none => []
      | some c => i16 c.fr ++ u16 c.ut ++ u16 c.fCeil ++ u8 (bit 0 c.reduced)) ++
    (match e.outcome with
      | none => []
      | some .restored => [1, 0, 0, 0] ++ u32 (e.closed.getD 0)
      | some (.failed cause code) =>
          [2] ++ u8 (failureCode cause) ++ u16 code.toNat ++ u32 (e.closed.getD 0))

/-! ## Notices -/

/-- An offered notice of a disabled kind is lost; else it joins the tail while fewer than 16 are held, ATTN
then standing asserted exactly if the threshold is reached or an urgent notice is held; else it is lost and
counted, up to 255. Nothing else changes (R160, R161, R162). The urgent notices are EPISODE_OPENED,
EPISODE_CLOSED and a DRIVE_STATE whose new state is HALTED (R159). -/
def Obligations.OfferedNoticeIsQueuedOrCounted : Prop :=
  (∀ b : NoticeBody, b.urgent = true ↔
    (∃ number i c f, b = .episodeOpened number i c f) ∨ (∃ number failure, b = .episodeClosed number failure) ∨
    ∃ c, b = .driveState .halted c) ∧
  ∀ (b : NoticeBody) (s : State),
    (s.notices.mask.getLsbD (noticeKind b - 1) = false → s.offer b = s) ∧
    (s.notices.mask.getLsbD (noticeKind b - 1) = true → s.notices.items.length < 16 →
      ∃ attn : Bool, s.offer b = { s with
        notices := { s.notices with items := s.notices.items ++ [{ time := s.partTime, body := b }] }
        outputs := { s.outputs with attn := attn } } ∧
      (attn = true ↔ s.notices.threshold ≤ s.notices.items.length + 1 ∨ b.urgent = true ∨
        ∃ n ∈ s.notices.items, n.body.urgent = true)) ∧
    (s.notices.mask.getLsbD (noticeKind b - 1) = true → 16 ≤ s.notices.items.length →
      s.offer b = { s with notices := { s.notices with overflow := min 255 (s.notices.overflow + 1) } })

/-- TAKE_NOTICES takes the oldest notices, up to max, 8 when it is absent; its reply carries how many it
took, the overflow count, how many are left and the notices in order; the overflow count becomes 0 and ATTN
follows the queue. A max outside 1 to 8 is refused RANGE and changes nothing (R164). -/
def Obligations.TakeNoticesGivesTheOldest : Prop :=
  ∀ (tag : Byte) (p : List Byte) (q : Items) (s : State), s.canServe → carries .takeNotices p q →
    (∀ n, n = (field q 1).getD 8 → 1 ≤ n → n ≤ 8 →
      ∃ attn : Bool, exec (.takeNotices tag p) s = .next (State.answered 0x13 tag
        (.ok (BitVec.ofNat 8 (min n s.notices.items.length) :: BitVec.ofNat 8 s.notices.overflow ::
          BitVec.ofNat 8 (s.notices.items.length - n) :: (s.notices.items.take n).flatMap noticeBytes))
        { s with
          notices := { s.notices with items := s.notices.items.drop n, overflow := 0 }
          outputs := { s.outputs with attn := attn } }) ∧
      (attn = true ↔ s.notices.threshold ≤ s.notices.items.length - n ∨
        ∃ m ∈ s.notices.items.drop n, m.body.urgent = true)) ∧
    (∀ n, field q 1 = some n → n = 0 ∨ 8 < n →
      exec (.takeNotices tag p) s = .next (s.answered 0x13 tag (.refused (.range 1))))

/-- NOTICE_MASK enables the kinds of its set list, then disables those of its clear list, and takes its
threshold; ATTN follows, and the queued notices stay. A list that names a seventh or eighth kind, the set
list first, or a threshold outside 1 to 16 is refused RANGE with its id (R163). That bits 6 and 7 of
the reply's enables are 0 is log entry 24. -/
def Obligations.NoticeMaskSetsThenClears : Prop :=
  ∀ (tag : Byte) (p : List Byte) (q : Items) (s : State), s.canServe → carries .noticeMask p q →
    ((∀ v, field q 1 = some v → v < 64) → (∀ v, field q 2 = some v → v < 64) →
      (∀ v, field q 3 = some v → 1 ≤ v ∧ v ≤ 16) →
      ∃ (m : BitVec 6) (attn : Bool), exec (.noticeMask tag p) s = .next (State.answered 0x14 tag
        (.ok [BitVec.ofNat 8 m.toNat, BitVec.ofNat 8 ((field q 3).getD s.notices.threshold)])
        { s with
          notices := { s.notices with mask := m, threshold := (field q 3).getD s.notices.threshold }
          outputs := { s.outputs with attn := attn } }) ∧
      (∀ k, k < 6 → (m.getLsbD k = true ↔ (fieldD q 2).testBit k = false ∧
        (s.notices.mask.getLsbD k = true ∨ (fieldD q 1).testBit k = true))) ∧
      (attn = true ↔ (field q 3).getD s.notices.threshold ≤ s.notices.items.length ∨
        ∃ n ∈ s.notices.items, n.body.urgent = true)) ∧
    (∀ v, field q 1 = some v → 64 ≤ v →
      exec (.noticeMask tag p) s = .next (s.answered 0x14 tag (.refused (.range 1)))) ∧
    (∀ v, (∀ u, field q 1 = some u → u < 64) → field q 2 = some v → 64 ≤ v →
      exec (.noticeMask tag p) s = .next (s.answered 0x14 tag (.refused (.range 2)))) ∧
    (∀ v, (∀ u, field q 1 = some u → u < 64) → (∀ u, field q 2 = some u → u < 64) →
      field q 3 = some v → v = 0 ∨ 16 < v →
      exec (.noticeMask tag p) s = .next (s.answered 0x14 tag (.refused (.range 3))))

/-! ## Configuration -/

/-- An accepted CONFIGURE writes the fields it carries and leaves the others. In UNCONFIGURED, where it must
carry N, it is the first: the slots at positions from 1 to N inherit their contactors' positions, the drive
is STOPPED with BRK_DEMAND released, the first gate starts and one DRIVE_STATE notice is offered. In STOPPED
and HALTED it changes nothing else. The reply gives the configuration it leaves (R16, R110, R129, R130, R170
to R172). -/
def Obligations.AcceptedConfigureWritesItsFields : Prop :=
  ∀ (tag : Byte) (p : List Byte) (q : Items) (s : State), s.canServe → carries .configure p q →
    let get (id standing : Nat) : Nat := match field q id with | none => standing | some v => v
    let c : Config :=
      { n := match field q 1 with | none => s.config.n | some v => some v
        period := get 2 s.config.period, linkLoss := get 3 s.config.linkLoss
        vTrip := get 4 s.config.vTrip, vRelease := get 5 s.config.vRelease
        bypassTimeout := get 6 s.config.bypassTimeout, settle := get 7 s.config.settle
        window := get 8 s.config.window, ramp := get 9 s.config.ramp
        handover := get 10 s.config.handover, supervision := get 11 s.config.supervision
        minCells := get 12 s.config.minCells, fMax := get 13 s.config.fMax
        encoderLines := get 14 s.config.encoderLines, polePairs := get 15 s.config.polePairs
        gate := get 16 s.config.gate, fRated := get 17 s.config.fRated, boost := get 18 s.config.boost
        fLimit := get 19 s.config.fLimit, fOver := get 20 s.config.fOver
        runaway := get 21 s.config.runaway }
    (∀ id v, field q id = some v → paramOk (c.n.getD 0) id v = true) →
    (field q 4 ≠ none ∨ field q 5 ≠ none → c.vTrip + 20 ≤ c.vRelease) →
    (field q 19 ≠ none ∨ field q 20 ≠ none → c.fLimit < c.fOver) →
    (∀ n, s.drive.state = .unconfigured → field q 1 = some n →
      let t : State := State.offer (.driveState .stopped 0) { s with
        config := c
        slots := Vector.ofFn fun i : Fin 27 =>
          if i.val % 9 + 1 ≤ n then { s.slots[i] with
            state := if s.slots[i].contactor.feedback = .closed then .bypassed else .active }
          else s.slots[i]
        drive := { s.drive with state := .stopped }
        outputs := { s.outputs with brkDemand := false }
        speed := { s.speed with
          gate := some
            { start := s.partTime, encoderLines := c.encoderLines, polePairs := c.polePairs,
              length := c.gate, count := 0, illegal := 0 } } }
      exec (.configure tag p) s = .next (t.answered 0x01 tag (.ok (configBytes t)))) ∧
    (s.drive.state = .stopped ∨ s.drive.state = .halted →
      (∀ n, field q 1 = some n → s.config.n = some n) →
      exec (.configure tag p) s = .next (State.answered 0x01 tag
        (.ok (configBytes { s with config := c })) { s with config := c }))

/-- CONFIGURE is refused by the first check that fails, in order: STATE in RUNNING and RIDING; MISSING 1
without N in UNCONFIGURED; STATE for another N in STOPPED and HALTED; RANGE with the id of the first field
out of range; RANGE for the pair V_trip and V_release, then for f_limit and f_over, with the id of the first
of the pair's fields that the request carries (R170, R171). That this holds too of a request that carries a
failing pair's standing values, which R172 calls accepted, is the model's choice (log entry 22). -/
def Obligations.ConfigureIsRefusedInOrder : Prop :=
  ∀ (tag : Byte) (p : List Byte) (q : Items) (s : State), s.canServe → carries .configure p q →
    let c := configAfter q s.config
    let refused (r : RefusalCause) : Prop :=
      exec (.configure tag p) s = .next (s.answered 0x01 tag (.refused r))
    let mayWrite : Prop := (s.drive.state = .unconfigured ∧ field q 1 ≠ none) ∨
      ((s.drive.state = .stopped ∨ s.drive.state = .halted) ∧
        ∀ n, field q 1 = some n → s.config.n = some n)
    let inRange : Prop := ∀ id v, field q id = some v → paramOk (c.n.getD 0) id v = true
    (s.drive.state = .running ∨ s.drive.state = .riding → refused .state) ∧
    (s.drive.state = .unconfigured → field q 1 = none → refused (.missing 1)) ∧
    (∀ n, s.drive.state = .stopped ∨ s.drive.state = .halted → field q 1 = some n →
      s.config.n ≠ some n → refused .state) ∧
    (∀ id v, mayWrite → field q id = some v → paramOk (c.n.getD 0) id v = false →
      (∀ j u, j < id → field q j = some u → paramOk (c.n.getD 0) j u = true) → refused (.range id)) ∧
    (mayWrite → inRange → c.vRelease < c.vTrip + 20 →
      (field q 4 ≠ none → refused (.range 4)) ∧
      (field q 4 = none → field q 5 ≠ none → refused (.range 5))) ∧
    (mayWrite → inRange → (field q 4 ≠ none ∨ field q 5 ≠ none → c.vTrip + 20 ≤ c.vRelease) →
      c.fOver ≤ c.fLimit →
      (field q 19 ≠ none → refused (.range 19)) ∧
      (field q 19 = none → field q 20 ≠ none → refused (.range 20)))

/-! ## The drive requests -/

/-- START's checks in order: STATE outside STOPPED; STATE while a configured slot is STUCK, FAULTED,
BYPASSING or RETURNING; INSUFFICIENT while a phase has fewer than min_cells candidates. One that passes
commits, zeroes the angle, magnitude and frequency, enters RUNNING without a reference, starts the
supervision timer and offers one DRIVE_STATE notice after the commit's own (R132, R133). -/
def Obligations.StartCommitsAndRuns : Prop :=
  ∀ (tag : Byte) (s : State), s.canServe →
    let unsettled : Prop := ∃ i, s.configured i = true ∧
      ((s.slot i).state = .stuck ∨ (s.slot i).state = .faulted ∨ (s.slot i).state = .bypassing ∨
        (s.slot i).state = .returning)
    let enough : Prop := ∀ x, x < 3 → s.config.minCells ≤ s.countPhase SlotState.candidate x
    (s.drive.state ≠ .stopped → exec (.start tag []) s = .next (s.answered 0x03 tag (.refused .state))) ∧
    (s.drive.state = .stopped → unsettled →
      exec (.start tag []) s = .next (s.answered 0x03 tag (.refused .state))) ∧
    (s.drive.state = .stopped → ¬unsettled → ¬enough →
      exec (.start tag []) s = .next (s.answered 0x03 tag (.refused .insufficient))) ∧
    (s.drive.state = .stopped → ¬unsettled → enough →
      let t : State := State.offer (.driveState .running 0) { s.commit with
        mod := { s.mod with theta := 0, mag := 0, freq := 0 }
        drive := { s.drive with
          state := .running
          reference := none
          supervision := some { start := s.partTime, length := 1000 * s.config.supervision } } }
      exec (.start tag []) s = .next (t.answered 0x03 tag (.ok (startBytes t))))

/-- STOP is refused with STATE in UNCONFIGURED and HALTED, changes nothing in STOPPED, takes RUNNING to
STOPPED with the timer stopped, the reference dropped and the applied values 0, and fails an open episode
with cause ABORTED, its reply then giving HALTED (R135, R88). That the reply is item 1 is log entry 16. -/
def Obligations.StopActsByDriveState : Prop :=
  ∀ (tag : Byte) (s : State), s.canServe →
    (s.drive.state = .unconfigured ∨ s.drive.state = .halted →
      exec (.stop tag []) s = .next (s.answered 0x04 tag (.refused .state))) ∧
    (s.drive.state = .stopped → exec (.stop tag []) s = .next (s.answered 0x04 tag (.ok [1, 1]))) ∧
    (s.drive.state = .running →
      exec (.stop tag []) s = .next (State.answered 0x04 tag (.ok [1, 1])
        (State.offer (.driveState .stopped 0) { s with
          drive := { s.drive with state := .stopped, supervision := none, reference := none }
          mod := { s.mod with mag := 0, freq := 0 } }))) ∧
    (s.drive.state = .riding → s.episode.current.isSome = true →
      exec (.stop tag []) s = .next ((s.failEpisode .aborted 0x6005).answered 0x04 tag (.ok [1, 4])))

/-- CLEAR_HALT is accepted in HALTED alone, and refused MOVING unless the last speed result is a valid f of
0. It enters STOPPED, clears the halt cause, releases BRK_DEMAND and offers one DRIVE_STATE notice (R144).
That the reply's drive state is item 1 is log entry 16. -/
def Obligations.ClearHaltNeedsAValidStandstill : Prop :=
  ∀ (tag : Byte) (s : State), s.canServe →
    (s.drive.state ≠ .halted →
      exec (.clearHalt tag []) s = .next (s.answered 0x05 tag (.refused .state))) ∧
    (s.drive.state = .halted → s.speed.last.f ≠ 0 ∨ s.speed.last.valid = false →
      exec (.clearHalt tag []) s = .next (s.answered 0x05 tag (.refused .moving))) ∧
    (s.drive.state = .halted → s.speed.last.f = 0 → s.speed.last.valid = true →
      exec (.clearHalt tag []) s = .next (State.answered 0x05 tag (.ok [1, 1])
        (State.offer (.driveState .stopped 0) { s with
          drive := { s.drive with state := .stopped, haltCause := none }
          outputs := { s.outputs with brkDemand := false } })))

/-- REFERENCE's checks in order: STATE outside RUNNING and HANDOVER; MISSING of u_d, then of the frequency;
RANGE of u_d above 1200, then of a frequency of -32768. One accepted in RUNNING is clamped to the committed
r and to plus or minus f_limit, with both flags set afresh, replaces the reference in force and restarts the
supervision timer (R122, R137, R138). That the reply's fields are items 1 to 4 is log entry 16. -/
def Obligations.ReferenceIsClampedAndApplied : Prop :=
  ∀ (tag : Byte) (p : List Byte) (q : Items) (s : State), s.canServe → carries .reference p q →
    let refused (r : RefusalCause) : Prop :=
      exec (.reference tag p) s = .next (s.answered 0x06 tag (.refused r))
    let open' : Prop := s.drive.state = .running ∨
      (s.drive.state = .riding ∧ ∃ e, s.episode.current = some e ∧ e.phase = .handover)
    (¬open' → refused .state) ∧
    (open' → field q 1 = none → refused (.missing 1)) ∧
    (open' → field q 1 ≠ none → field q 2 = none → refused (.missing 2)) ∧
    (∀ u w, open' → field q 1 = some u → field q 2 = some w → 1200 < u → refused (.range 1)) ∧
    (∀ u, open' → field q 1 = some u → field q 2 = some 0x8000 → u ≤ 1200 → refused (.range 2)) ∧
    (∀ u w (f : Int), s.drive.state = .running → field q 1 = some u → field q 2 = some w → u ≤ 1200 →
      w ≠ 0x8000 → f = (if w < 0x8000 then (w : Int) else (w : Int) - 0x10000) →
      let g : Int := if f < -(s.config.fLimit : Int) then -(s.config.fLimit : Int)
        else if (s.config.fLimit : Int) < f then (s.config.fLimit : Int) else f
      exec (.reference tag p) s = .next (State.answered 0x06 tag
        (.ok ([1] ++ byte2 (min u s.ratio) ++ [2] ++ byte2s g ++
          [3, if s.ratio < u then 1 else 0, 4, if g ≠ f then 1 else 0]))
        { s with
          drive := { s.drive with
            reference := some
              { demand := u, frequency := f, mag := min u s.ratio, freq := g,
                limited := decide (s.ratio < u), clamped := decide (g ≠ f), time := s.partTime }
            supervision := some { start := s.partTime, length := 1000 * s.config.supervision } }
          mod := { s.mod with mag := min u s.ratio, freq := g } }))

/-- A REFERENCE accepted in HANDOVER closes the episode RESTORED: its timers are cancelled, EPISODE_CLOSED is
offered, the record enters the history, RIDE_ACTIVE is released, the drive is RUNNING on that reference and
the supervision timer starts; the reply carries the applied magnitude, the applied frequency and the two clamp
flags (R7, R75, R90). That these are items 1 to 4 is log entry 16. -/
def Obligations.ReferenceInHandoverRestores : Prop :=
  ∀ (tag : Byte) (p : List Byte) (q : Items) (s : State) (e : EpisodeRecord) (u w : Nat),
    s.canServe → carries .reference p q → s.drive.state = .riding → s.episode.current = some e →
    e.phase = .handover → field q 1 = some u → field q 2 = some w → u ≤ 1200 → w ≠ 0x8000 →
    ∃ r : Reference,
      r.demand = u ∧ r.frequency = (BitVec.ofNat 16 w).toInt ∧ r.mag = min u s.ratio ∧
      r.freq = max (-(s.config.fLimit : Int)) (min (s.config.fLimit : Int) r.frequency) ∧
      r.limited = decide (s.ratio < u) ∧ r.clamped = decide (r.freq ≠ r.frequency) ∧
      r.time = s.partTime ∧
      let t : State := State.offer (.episodeClosed e.number none) { s with
        episode := { s.episode with settle := none, window := none, handover := none } }
      exec (.reference tag p) s = .next (State.answered 0x06 tag
        (.ok ([1] ++ bigEndian 2 r.mag ++ [2] ++ bigEndian 2 (r.freq % 2 ^ 16).toNat ++
          [3, if r.limited then 1 else 0, 4, if r.clamped then 1 else 0]))
        (State.startAllFaulted (fun _ => true) { t with
          episode := { t.episode with
            current := none
            history := ({ e with outcome := some .restored, closed := some s.partTime } ::
              s.episode.history).take 4 }
          outputs := { t.outputs with rideActive := false }
          drive := { s.drive with
            state := .running
            reference := some r
            supervision := some { start := s.partTime, length := 1000 * s.config.supervision } }
          mod := { s.mod with mag := r.mag, freq := r.freq, rampPos := 0, rampDone := false } }))

/-- A halt asked for in RUNNING or STOPPED makes the drive HALTED with its cause, asserts BRK_DEMAND, drops
what belongs to RUNNING and offers one DRIVE_STATE notice; asked for in HALTED it changes nothing. A HALT
qualification halts so, and in RIDING fails the episode with cause HALT_FAULT and its code. The supervision
timer's expiry in RUNNING halts with cause REFERENCE_SILENT, and does not happen once a REFERENCE taken first
has restarted the timer (R58, R84, R139 to R142). -/
def Obligations.HaltsActByDriveState : Prop :=
  (∀ (c : Code) (s : State),
    (s.drive.state = .running → s.halt c = State.offer (.driveState .halted c) { s with
      drive := { state := .halted, supervision := none, reference := none, haltCause := some c }
      mod := { s.mod with mag := 0, freq := 0 }
      outputs := { s.outputs with brkDemand := true } }) ∧
    (s.drive.state = .stopped → s.halt c = State.offer (.driveState .halted c) { s with
      drive := { s.drive with state := .halted, haltCause := some c }
      outputs := { s.outputs with brkDemand := true } }) ∧
    (s.drive.state = .halted → s.halt c = s ∧ s.haltAction c = s) ∧
    (s.drive.state = .running ∨ s.drive.state = .stopped → s.haltAction c = s.halt c) ∧
    (s.drive.state = .riding → s.haltAction c = s.failEpisode .haltFault c)) ∧
  (∀ (t : Timer) (s : State), s.inReset = false → s.drive.state = .running →
    s.drive.supervision = some t → t.length ≤ (s.partTime - t.start).toNat →
    exec .supervisionExpiry s = .next (s.halt 0x5004)) ∧
  ∀ (tag : Byte) (p : List Byte) (q : Items) (u w : Nat) (s : State), s.canServe → carries .reference p q →
    s.drive.state = .running → 0 < s.config.supervision →
    field q 1 = some u → field q 2 = some w → u ≤ 1200 → w ≠ 0x8000 →
    ∃ t, exec (.reference tag p) s = .next t ∧ t.drive.state = .running ∧
      exec .supervisionExpiry t = .next t

/-! ## Cells and bypass contactors -/

/-- A slot that enters a state: its pulse lines, its pulse operation with the bypass timeout in force, its
carrier offset and its pending fault follow the state (R4, R5, R6, R21, R22), its other fields and the other
slots stand, and one CELL_STATE notice with the old state, the new one and the cause is offered (R23, R24). In
the open episode its entry's outcome becomes BYPASSED, with the slot's last bypass close time, when it enters
BYPASSED, and STUCK when it enters STUCK; the record is otherwise unchanged (R64). -/
def Obligations.EnteringAStateDrivesTheContactor : Prop :=
  ∀ (i : Slot) (new : SlotState) (cause : Code) (s : State),
    let t := s.enterState i new cause
    let r := s.slot i
    (t.slot i).state = new ∧
    (t.slot i).contactor = { r.contactor with
      closeLine := decide (new = .bypassing)
      openLine := decide (new = .returning)
      pulse :=
        if new = .bypassing then some
          { kind := .close, asserted := s.partTime, timeout := s.config.bypassTimeout,
            judge := decide (r.contactor.feedback = .closed) }
        else if new = .returning then some
          { kind := .opening, asserted := s.partTime, timeout := s.config.bypassTimeout,
            judge := decide (r.contactor.feedback = .opened) }
        else none } ∧
    (t.slot i).offset = (if new = .active then r.offset else none) ∧
    (t.slot i).fault = { r.fault with
      pending :=
        if (r.state = .active ∨ r.state = .parked) ∧ new ≠ .active ∧ new ≠ .parked then none
        else r.fault.pending } ∧
    (t.slot i).link = r.link ∧ (∀ j, j ≠ i → t.slot j = s.slot j) ∧
    t.episode = { s.episode with
      current := s.episode.current.map fun e => { e with
        involved := e.involved.map fun v =>
          if v.slot ≠ i then v
          else if new = .bypassed then
            { v with outcome := .bypassed, closeTime := r.contactor.lastClose }
          else if new = .stuck then { v with outcome := .stuck }
          else v } } ∧
    t.notices = (s.offer (.cellState i r.state new cause)).notices ∧
    t.drive = s.drive ∧ t.committed = s.committed ∧ t.sync = s.sync ∧ t.mod = s.mod ∧
    t.config = s.config ∧ t.link = s.link ∧ t.outputs.brkDemand = s.outputs.brkDemand ∧
    t.outputs.rideActive = s.outputs.rideActive

/-- BYPASS_CELL's checks in order: RANGE of a slot byte that names no slot; STATE outside STOPPED and
HALTED; RANGE of an ABSENT slot; STATE of a slot in BYPASSING, BYPASSED or RETURNING. One that passes puts
the slot in BYPASSING with cause 0 (R6, R17, R18). That a request with no slot item is refused RANGE is log
entry 9, and that the reply is items 1 slot and 2 state is log entry 16. -/
def Obligations.BypassCellStartsTheBypass : Prop :=
  ∀ (tag : Byte) (s : State), s.canServe →
    exec (.bypassCell tag []) s = .next (s.answered 0x07 tag (.refused (.range 1))) ∧
    (∀ v : Byte, v.toNat / 16 = 0 ∨ 3 < v.toNat / 16 ∨ v.toNat % 16 = 0 ∨ 9 < v.toNat % 16 →
      exec (.bypassCell tag [1, v]) s = .next (s.answered 0x07 tag (.refused (.range 1)))) ∧
    ∀ i : Slot,
      let b : Byte := BitVec.ofNat 8 (16 * (i.val / 9 + 1) + i.val % 9 + 1)
      let x := (s.slot i).state
      let may : Prop := s.drive.state = .stopped ∨ s.drive.state = .halted
      (¬may → exec (.bypassCell tag [1, b]) s = .next (s.answered 0x07 tag (.refused .state))) ∧
      (may → x = .absent →
        exec (.bypassCell tag [1, b]) s = .next (s.answered 0x07 tag (.refused (.range 1)))) ∧
      (may → x = .bypassing ∨ x = .bypassed ∨ x = .returning →
        exec (.bypassCell tag [1, b]) s = .next (s.answered 0x07 tag (.refused .state))) ∧
      (may → x = .active ∨ x = .parked ∨ x = .faulted ∨ x = .stuck →
        exec (.bypassCell tag [1, b]) s =
          .next ((s.enterState i .bypassing 0).answered 0x07 tag (.ok [1, b, 2, 4])))

/-- RETURN_CELL's checks in order: RANGE of a slot byte that names no slot; STATE outside STOPPED; RANGE of
an ABSENT slot; STATE of a slot that is neither BYPASSED nor STUCK; CELL_NOT_READY while the link is not up
or the last reported code is not 0. One that passes puts the slot in RETURNING with cause 0 (R10, R17,
R19). That a request with no slot item is refused RANGE is log entry 9, and that the reply is items 1 slot and
2 state is log entry 16. -/
def Obligations.ReturnCellStartsTheReturn : Prop :=
  ∀ (tag : Byte) (s : State), s.canServe →
    exec (.returnCell tag []) s = .next (s.answered 0x08 tag (.refused (.range 1))) ∧
    (∀ v : Byte, v.toNat / 16 = 0 ∨ 3 < v.toNat / 16 ∨ v.toNat % 16 = 0 ∨ 9 < v.toNat % 16 →
      exec (.returnCell tag [1, v]) s = .next (s.answered 0x08 tag (.refused (.range 1)))) ∧
    ∀ i : Slot,
      let b : Byte := BitVec.ofNat 8 (16 * (i.val / 9 + 1) + i.val % 9 + 1)
      let x := (s.slot i).state
      let ready : Prop := (s.slot i).link.up = true ∧ (s.slot i).link.code = 0
      (s.drive.state ≠ .stopped →
        exec (.returnCell tag [1, b]) s = .next (s.answered 0x08 tag (.refused .state))) ∧
      (s.drive.state = .stopped → x = .absent →
        exec (.returnCell tag [1, b]) s = .next (s.answered 0x08 tag (.refused (.range 1)))) ∧
      (s.drive.state = .stopped → x ≠ .absent → x ≠ .bypassed → x ≠ .stuck →
        exec (.returnCell tag [1, b]) s = .next (s.answered 0x08 tag (.refused .state))) ∧
      (s.drive.state = .stopped → x = .bypassed ∨ x = .stuck → ¬ready →
        exec (.returnCell tag [1, b]) s = .next (s.answered 0x08 tag (.refused .cellNotReady))) ∧
      (s.drive.state = .stopped → x = .bypassed ∨ x = .stuck → ready →
        exec (.returnCell tag [1, b]) s =
          .next ((s.enterState i .returning 0).answered 0x08 tag (.ok [1, b, 2, 6])))

/-- A feedback sample, 100 µs after the one before: one equal to the debounced value sets the run to 0; one
that differs adds to the run, the first keeping its part time as the run start; the third makes the
debounced value the sampled one. In a slot with no pulse operation a value that became CLOSED in ACTIVE,
PARKED or FAULTED, or OPEN in BYPASSED, makes the slot STUCK with the anomaly's code; one that became what the
state implies, or any in an ABSENT or STUCK slot, is recorded and moves nothing (R3, R12, R13). -/
def Obligations.FeedbackIsDebounced : Prop :=
  ∀ (i : Slot) (high : Bool) (s : State), s.inReset = false →
    100 ≤ (s.partTime - (s.slot i).contactor.sampledAt).toNat → (s.slot i).contactor.pulse = none →
    let r := s.slot i
    let c := r.contactor
    let x : Feedback := if high then .closed else .opened
    let start : PartTime := if c.run = 0 then s.partTime else c.runStart
    let became : State := s.setSlot i { r with
      contactor := { c with feedback := x, run := 0, runStart := start, sampledAt := s.partTime } }
    (x = c.feedback → exec (.feedbackSample i high) s = .next (s.setSlot i { r with
      contactor := { c with run := 0, sampledAt := s.partTime } })) ∧
    (x ≠ c.feedback → c.run < 2 → exec (.feedbackSample i high) s = .next (s.setSlot i { r with
      contactor := { c with run := c.run + 1, runStart := start, sampledAt := s.partTime } })) ∧
    (x ≠ c.feedback → 2 ≤ c.run → r.state = .absent ∨ r.state = .stuck →
      exec (.feedbackSample i high) s = .next became) ∧
    (x ≠ c.feedback → 2 ≤ c.run → (x = .closed ∧ r.state = .bypassed) ∨
        (x = .opened ∧ (r.state = .active ∨ r.state = .parked ∨ r.state = .faulted)) →
      exec (.feedbackSample i high) s = .next became) ∧
    (x = .closed → c.feedback = .opened → 2 ≤ c.run →
      r.state = .active ∨ r.state = .parked ∨ r.state = .faulted →
      exec (.feedbackSample i high) s = .next (became.stick i 0x4002)) ∧
    (x = .opened → c.feedback = .closed → 2 ≤ c.run → r.state = .bypassed →
      exec (.feedbackSample i high) s = .next (became.stick i 0x4001))

/-- A feedback sample of a slot in BYPASSING or RETURNING is debounced (R3). It completes the operation if the
debounced value becomes the awaited one at it, with the time from the pulse's assertion to the first sample of
the run in tenths of a millisecond, 0 if the run began before the assertion; or if the value stood there at
the assertion, this is the first sample since and the value still stands there after the debounce step,
whatever the sample reads, with a time of 0. The slot then enters BYPASSED or ACTIVE, and a listed slot's
bypass is checked by the episode. Any other sample is recorded and the operation goes on (R8, R10, R13, R68). -/
def Obligations.FeedbackCompletesPulseOperations : Prop :=
  ∀ (i : Slot) (high : Bool) (p : PulseOp) (s : State), s.inReset = false →
    100 ≤ (s.partTime - (s.slot i).contactor.sampledAt).toNat → (s.slot i).contactor.pulse = some p →
    let r := s.slot i
    let c := r.contactor
    let x : Feedback := if high then .closed else .opened
    let start : PartTime := if c.run = 0 then s.partTime else c.runStart
    let became : Prop := x ≠ c.feedback ∧ 2 ≤ c.run
    let value : Feedback := if x ≠ c.feedback ∧ 2 ≤ c.run then x else c.feedback
    let debounced : Contactor := { c with
      feedback := value
      run := if x = c.feedback ∨ 2 ≤ c.run then 0 else c.run + 1
      runStart := if x = c.feedback then c.runStart else start
      sampledAt := s.partTime }
    let measured : Nat := if (s.partTime - p.asserted).toNat < (s.partTime - start).toNat then 0
      else (start - p.asserted).toNat / 100
    let time : Nat := if p.judge then 0 else measured
    let completes (awaited : Feedback) : Prop :=
      value = awaited ∧ (p.judge = true ∨ became)
    let goesOn : State :=
      s.setSlot i { r with contactor := { debounced with pulse := some { p with judge := false } } }
    let checked (t : State) : State := if t.listed i then t.checkBypass else t
    (r.state = .bypassing → completes .closed → exec (.feedbackSample i high) s = .next (checked
      ((s.setSlot i { r with contactor := { debounced with lastClose := some time } }).enterState i
        .bypassed 0))) ∧
    (r.state = .returning → completes .opened → exec (.feedbackSample i high) s = .next
      ((s.setSlot i { r with contactor := { debounced with lastOpen := some time } }).enterState i
        .active 0)) ∧
    ((r.state = .bypassing ∧ ¬completes .closed) ∨ (r.state = .returning ∧ ¬completes .opened) →
      exec (.feedbackSample i high) s = .next goesOn)

/-- A pulse operation whose time is up makes its slot STUCK with cause 0x4003. In STOPPED and HALTED that is
all; in RIDING the open episode fails with cause BYPASS_TIMEOUT. An anomaly's code halts the drive in RUNNING
and fails the open episode with cause BYPASS_LOST in RIDING (R9, R11, R12, R15, R87). -/
def Obligations.PulseTimeoutsStickTheSlot : Prop :=
  (∀ (i : Slot) (p : PulseOp) (s : State), s.inReset = false → (s.slot i).contactor.pulse = some p →
    1000 * p.timeout ≤ (s.partTime - p.asserted).toNat →
    ((s.slot i).state = .bypassing → exec (.bypassTimeout i) s = .next (s.stick i 0x4003)) ∧
    ((s.slot i).state = .returning → exec (.returnOperationTimeout i) s = .next (s.stick i 0x4003))) ∧
  ∀ (i : Slot) (c : Code) (s : State), c = 0x4001 ∨ c = 0x4002 ∨ c = 0x4003 →
    (s.drive.state = .stopped ∨ s.drive.state = .halted → s.stick i c = s.enterState i .stuck c) ∧
    (s.drive.state = .running → c ≠ 0x4003 → s.stick i c = (s.enterState i .stuck c).halt c) ∧
    (s.drive.state = .riding → s.stick i c = (s.enterState i .stuck c).failEpisode
      (if c = 0x4003 then .bypassTimeout else .bypassLost) c)

/-! ## Fault intake and routing -/

/-- The route of a code is that of the lowest enabled window whose match it equals under the mask, and the
default route, index 8, HALT and LATCHED, if there is none (R46, R47, R50). -/
def Obligations.LowestEnabledWindowGivesTheRoute : Prop :=
  ∀ (c : Code) (now : PartTime) (s : State),
    let hits (k : Fin 8) : Prop :=
      (s.windows[k]).enabled = true ∧ c &&& (s.windows[k]).mask = (s.windows[k]).value
    (∀ k : Fin 8, hits k → (∀ j, j < k → ¬hits j) → s.routeFor c now =
      { code := c, route := k, kind := (s.windows[k]).kind, action := (s.windows[k]).action,
        q := (s.windows[k]).q, count := 1, firstSeen := now }) ∧
    ((∀ k, ¬hits k) → (s.routeFor c now).route = 8 ∧ (s.routeFor c now).action = .halt ∧
      (s.routeFor c now).kind = .latched ∧ (s.routeFor c now).code = c ∧
      (s.routeFor c now).firstSeen = now)

/-- A presentation continues a pending record of its own code, which qualifies when its count reaches its
Q; a clear or a missed presentation discards the record, a clear one the noted code too; any other code is a
first sight, which an IGNORE route leaves without a record and which qualifies at once if LATCHED or with a
Q of 1 (R50 to R53, R55). -/
def Obligations.PresentationsBuildToQualification : Prop :=
  ∀ (src : FaultSource) (c : Code) (s : State),
    let f := s.facts src
    let n := s.routeFor c s.partTime
    (∀ p, f.pending = some p → p.code = c → p.kind = .level → p.count + 1 < p.q →
      s.present src (.code c) = s.setFacts src { f with pending := some { p with count := p.count + 1 } }) ∧
    (∀ p, f.pending = some p → p.code = c → p.kind = .level → p.q ≤ p.count + 1 →
      s.present src (.code c) = s.qualify src { p with count := p.count + 1 }) ∧
    ((∀ p, f.pending = some p → p.code ≠ c) →
      (n.action = .ignore → s.present src (.code c) = s.setFacts src { f with pending := none }) ∧
      (n.action ≠ .ignore → n.kind = .latched ∨ n.q ≤ 1 → s.present src (.code c) = s.qualify src n) ∧
      (n.action ≠ .ignore → n.kind = .level → 1 < n.q →
        s.present src (.code c) = s.setFacts src { f with pending := some n })) ∧
    s.present src .missed = s.setFacts src { f with pending := none } ∧
    s.present src .clear = s.setFacts src { f with pending := none, noted := none }

/-- Whatever its action does, a qualification leaves its source with no pending record, the code, the action
taken and the part time as its last qualified fault, and its count increased up to 255; a RIDE of an external
line's code is recorded, and acts, as HALT (R54, R57). A NOTE qualification offers a FAULT_NOTED notice unless
its code is already noted, and notes the code. A RIDE qualification puts the cell in FAULTED; its bypass
starts at once in STOPPED and HALTED, an episode opens in RUNNING, and the open episode is offered the cell in
RIDING (R55, R56). -/
def Obligations.QualificationsAreRecordedAndActedOn : Prop :=
  (∀ (src : FaultSource) (p : PendingFault) (s : State),
    let taken : Action := match src with
      | .line _ => if p.action = .ride then .halt else p.action
      | .slot _ => p.action
    let t := s.setFacts src { s.facts src with
      pending := none
      last := some { code := p.code, action := taken, time := s.partTime }
      count := min 255 ((s.facts src).count + 1) }
    ((s.qualify src p).facts src).pending = none ∧
    ((s.qualify src p).facts src).last = some { code := p.code, action := taken, time := s.partTime } ∧
    ((s.qualify src p).facts src).count = min 255 ((s.facts src).count + 1) ∧
    (taken = .ignore → s.qualify src p = t) ∧ (taken = .note → s.qualify src p = t.noteAction src p) ∧
    (taken = .halt → s.qualify src p = t.haltAction p.code) ∧
    (∀ i, src = .slot i → taken = .ride → s.qualify src p = t.rideAction i p)) ∧
  (∀ (src : FaultSource) (p : PendingFault) (s : State),
    let t := s.setFacts src { s.facts src with noted := some p.code }
    ((s.facts src).noted = some p.code → s.noteAction src p = t) ∧
    ((s.facts src).noted ≠ some p.code →
      s.noteAction src p = t.offer (.faultNoted src.note p.code (some p.route)))) ∧
  ∀ (i : Slot) (p : PendingFault) (s : State),
    let t := s.enterState i .faulted p.code
    (s.drive.state = .stopped ∨ s.drive.state = .halted → ∀ c, (s.slot i).fault.last = some c →
      s.rideAction i p = t.enterState i .bypassing c.code) ∧
    (s.drive.state = .running → s.rideAction i p = t.openEpisode i p.code p.route) ∧
    (s.drive.state = .riding → s.rideAction i p = t.offerToEpisode i p.code p.route)

/-- ROUTE_SET's checks in order: STATE in RIDING; MISSING of the first absent field, the index first; RANGE
of the first field outside its values; INVALID of a match with a bit outside the mask. One that passes
replaces the window's six fields and changes nothing else, no pending record either (R46, R48, R53; the
fields of its reply are log entry 13). -/
def Obligations.RouteSetWritesOneWindow : Prop :=
  ∀ (tag : Byte) (p : List Byte) (q : Items) (s : State), s.canServe → carries .routeSet p q →
    let refused (r : RefusalCause) : Prop :=
      exec (.routeSet tag p) s = .next (s.answered 0x0B tag (.refused r))
    let allowed (id v : Nat) : Prop :=
      (id = 1 → v < 8) ∧ (id = 2 → v ≤ 1) ∧ (id = 5 → v ≤ 3) ∧ (id = 6 → v ≤ 1) ∧
      (id = 7 → v = 1 ∨ v = 2 ∨ v = 4 ∨ v = 8 ∨ v = 16)
    let whole : Prop := ∀ id, 1 ≤ id → id ≤ 7 → field q id ≠ none
    (s.drive.state = .riding → refused .state) ∧
    (∀ id, s.drive.state ≠ .riding → 1 ≤ id → id ≤ 7 → field q id = none →
      (∀ j, 1 ≤ j → j < id → field q j ≠ none) → refused (.missing id)) ∧
    (∀ id v, s.drive.state ≠ .riding → whole → field q id = some v → ¬allowed id v →
      (∀ j u, j < id → field q j = some u → allowed j u) → refused (.range id)) ∧
    (s.drive.state ≠ .riding → whole → (∀ id v, field q id = some v → allowed id v) →
      let w : RouteWindow :=
        { enabled := decide (fieldD q 2 = 1), value := BitVec.ofNat 16 (fieldD q 3),
          mask := BitVec.ofNat 16 (fieldD q 4),
          action := match fieldD q 5 with | 0 => .ignore | 1 => .note | 2 => .ride | _ => .halt
          kind := if fieldD q 6 = 0 then .level else .latched, q := fieldD q 7 }
      (w.value &&& ~~~w.mask ≠ 0 → refused .invalid) ∧
      (w.value &&& ~~~w.mask = 0 → ∃ bytes windows, exec (.routeSet tag p) s =
          .next (State.answered 0x0B tag (.ok bytes) { s with windows := windows }) ∧
        ∀ k : Fin 8, windows[k] = if k.val = fieldD q 1 then w else s.windows[k]))

/-- EXT_SET's checks in order: STATE in RIDING; MISSING of the line; RANGE of the line, the enable or the
polarity. One that passes changes the settings it carries; a line it disables loses its pending record and
its noted code, and no other field of any line changes (R44). That the reply is items 1 enable and 2 polarity
is log entry 16. -/
def Obligations.ExtSetChangesOneLine : Prop :=
  ∀ (tag : Byte) (p : List Byte) (q : Items) (s : State), s.canServe → carries .extSet p q →
    let refused (r : RefusalCause) : Prop :=
      exec (.extSet tag p) s = .next (s.answered 0x0D tag (.refused r))
    (s.drive.state = .riding → refused .state) ∧
    (s.drive.state ≠ .riding → field q 1 = none → refused (.missing 1)) ∧
    (∀ v, s.drive.state ≠ .riding → field q 1 = some v → 3 < v → refused (.range 1)) ∧
    (∀ l : ExtLine, s.drive.state ≠ .riding → field q 1 = some l.val →
      (∀ v, field q 2 = some v → 1 < v → refused (.range 2)) ∧
      (∀ v, (∀ u, field q 2 = some u → u ≤ 1) → field q 3 = some v → 1 < v → refused (.range 3)) ∧
      ((∀ u, field q 2 = some u → u ≤ 1) → (∀ u, field q 3 = some u → u ≤ 1) →
        let r := s.line l
        let on : Bool := match field q 2 with | none => r.enable | some v => decide (v = 1)
        let pol : Polarity := match field q 3 with
          | none => r.polarity
          | some v => if v = 1 then .activeLow else .activeHigh
        exec (.extSet tag p) s = .next (State.answered 0x0D tag
          (.ok [1, if on then 1 else 0, 2, if pol = .activeLow then 1 else 0])
          (s.setLine l { r with
            enable := on
            polarity := pol
            fault :=
              if r.enable = true ∧ on = false then { r.fault with pending := none, noted := none }
              else r.fault }))))

/-- The sample of an external line, 100 µs after the one before: the input reads high at 2.0 V or above and
low at 0.8 V or below (R179), and between them, where the manual gives no reading, as a free value (log entry
23). From the first CONFIGURE on an enabled line presents its code while the level read is the polarity's, and
a clear presentation otherwise; a disabled line, or any line before the first CONFIGURE, presents nothing
(R42, R43). -/
def Obligations.EnabledLinesAreSampled : Prop :=
  ∀ (l : ExtLine) (mv : Nat) (s : State), s.inReset = false →
    (s.config.n = none ∨ (s.line l).enable = false → exec (.extLineSample l mv) s = .next s) ∧
    (s.config.n ≠ none → (s.line l).enable = true →
      100 ≤ (s.partTime - (s.line l).sampledAt).toNat →
      let high : Bool := if 2000 ≤ mv then true else if mv ≤ 800 then false
        else Config.levelBetween mv s.freeReadings
      let t : State := { s.setLine l { s.line l with sampledAt := s.partTime } with
        freeReadings := if 800 < mv ∧ mv < 2000 then s.freeReadings + 1 else s.freeReadings }
      (high = decide ((s.line l).polarity = .activeHigh) →
        exec (.extLineSample l mv) s =
          .next (t.present (.line l) (.code (BitVec.ofNat 16 (0x3000 + l.val))))) ∧
      (high = decide ((s.line l).polarity = .activeLow) →
        exec (.extLineSample l mv) s = .next (t.present (.line l) .clear)))

/-! ## The plan store -/

/-- PLAN_PUT's checks in order: STATE in UNCONFIGURED and RIDING; MISSING of the first absent field; RANGE of
the first field out of range, the bound on r taken with the request's own counts; FULL when 32 entries are
held and none has the key. One that passes leaves the table in key order with the request's entry in place of
any of its key and every other entry as it was, changes nothing else, and answers the key, the entry's index,
whether it replaced one, and the number of entries (R94 to R97). -/
def Obligations.PlanPutEditsTheTable : Prop :=
  ∀ (tag : Byte) (p : List Byte) (q : Items) (s : State), s.canServe → carries .planPut p q → PlansSound s →
    let refused (r : RefusalCause) : Prop :=
      exec (.planPut tag p) s = .next (s.answered 0x0E tag (.refused r))
    let may : Prop := s.drive.state = .stopped ∨ s.drive.state = .running ∨ s.drive.state = .halted
    let whole : Prop := ∀ id, 1 ≤ id → id ≤ 6 → field q id ≠ none
    let k : PlanKey := { a := fieldD q 1, b := fieldD q 2, c := fieldD q 3 }
    let e : PlanEntry := { key := k, lagB := fieldD q 4, lagC := fieldD q 5, r := fieldD q 6 }
    let allowed (id v : Nat) : Prop :=
      (1 ≤ id → id ≤ 3 → 1 ≤ v ∧ v ≤ s.n) ∧ (id = 4 ∨ id = 5 → v ≤ 3599) ∧
      (id = 6 → 1000 * min k.a (min k.b k.c) / s.n ≤ v ∧ v ≤ 1000)
    let passes : Prop := may ∧ whole ∧ ∀ id v, field q id = some v → allowed id v
    let held : Prop := ∃ f ∈ s.plans, f.key = k
    (¬may → refused .state) ∧
    (∀ id, may → 1 ≤ id → id ≤ 6 → field q id = none → (∀ j, 1 ≤ j → j < id → field q j ≠ none) →
      refused (.missing id)) ∧
    (∀ id v, may → whole → field q id = some v → ¬allowed id v →
      (∀ j u, j < id → field q j = some u → allowed j u) → refused (.range id)) ∧
    (passes → s.plans.length = 32 → ¬held → refused .full) ∧
    (passes → s.plans.length < 32 ∨ held → ∃ (plans : List PlanEntry) (index replaced : Nat),
      exec (.planPut tag p) s = .next (State.answered 0x0E tag
        (.ok (keyBytes k ++ [BitVec.ofNat 8 index, BitVec.ofNat 8 replaced, BitVec.ofNat 8 plans.length]))
        { s with plans := plans }) ∧
      plans.Pairwise (fun x y => x.key.before y.key = true) ∧
      (∀ x, x ∈ plans ↔ x = e ∨ (x ∈ s.plans ∧ x.key ≠ k)) ∧ plans[index]? = some e ∧
      (held → replaced = 1 ∧ plans.length = s.plans.length) ∧
      (¬held → replaced = 0 ∧ plans.length = s.plans.length + 1))

/-- PLAN_DROP's checks in order: STATE in RIDING; MISSING of the first absent count; RANGE of the first count
outside 1 to 9; NOT_FOUND of a key not held. One that passes removes the entry of its key alone and answers
that entry and how many are left (R98). PLAN_CLEAR, refused STATE in RIDING, removes every entry and answers
how many it removed (R99). Neither changes anything else. That PLAN_CLEAR's count is item 1 is log entry
16. -/
def Obligations.PlanDropAndClearRemoveEntries : Prop :=
  (∀ (tag : Byte) (p : List Byte) (q : Items) (s : State), s.canServe → carries .planDrop p q →
    let refused (r : RefusalCause) : Prop :=
      exec (.planDrop tag p) s = .next (s.answered 0x0F tag (.refused r))
    let k : PlanKey := { a := fieldD q 1, b := fieldD q 2, c := fieldD q 3 }
    let whole : Prop := ∀ id, 1 ≤ id → id ≤ 3 → field q id ≠ none
    let inRange : Prop := ∀ id v, field q id = some v → 1 ≤ v ∧ v ≤ 9
    (s.drive.state = .riding → refused .state) ∧
    (∀ id, s.drive.state ≠ .riding → 1 ≤ id → id ≤ 3 → field q id = none →
      (∀ j, 1 ≤ j → j < id → field q j ≠ none) → refused (.missing id)) ∧
    (∀ id v, s.drive.state ≠ .riding → whole → field q id = some v → v = 0 ∨ 9 < v →
      (∀ j u, j < id → field q j = some u → 1 ≤ u ∧ u ≤ 9) → refused (.range id)) ∧
    (s.drive.state ≠ .riding → whole → inRange → (∀ e ∈ s.plans, e.key ≠ k) → refused .notFound) ∧
    (∀ e ∈ s.plans, s.drive.state ≠ .riding → whole → inRange → e.key = k → PlansSound s →
      ∃ plans : List PlanEntry,
        exec (.planDrop tag p) s = .next (State.answered 0x0F tag
          (.ok (entryBytes e ++ [BitVec.ofNat 8 plans.length])) { s with plans := plans }) ∧
        plans.Sublist s.plans ∧ plans.length + 1 = s.plans.length ∧ ∀ x, x ∈ plans ↔ x ∈ s.plans ∧ x ≠ e)) ∧
  ∀ (tag : Byte) (s : State), s.canServe →
    (s.drive.state = .riding →
      exec (.planClear tag []) s = .next (s.answered 0x11 tag (.refused .state))) ∧
    (s.drive.state ≠ .riding → exec (.planClear tag []) s =
      .next (State.answered 0x11 tag (.ok [1, BitVec.ofNat 8 s.plans.length]) { s with plans := [] }))

/-- A commit looks up the counts of the candidates of the three phases. On a hit every candidate is ACTIVE
and the plan is the entry's; on a miss the m lowest candidates of each phase are ACTIVE and the others PARKED,
m the smallest count, with lags 1200 and 2400 and r = floor(1000 m / N). The other slots stay in their states;
each ACTIVE slot gets its carrier offset and no other slot has one; the generation goes up by one modulo 4;
each change of state offers a CELL_STATE notice with cause 0, in slot order; and nothing else changes
(R102 to R106, R125). -/
def Obligations.CommitArrangesTheCandidates : Prop :=
  ∀ s : State, PlansSound s →
    let t := s.commit
    let k : PlanKey :=
      { a := s.countPhase SlotState.candidate 0, b := s.countPhase SlotState.candidate 1,
        c := s.countPhase SlotState.candidate 2 }
    let m : Nat := min k.a (min k.b k.c)
    let candidate (i : Slot) : Prop := (s.slot i).state = .active ∨ (s.slot i).state = .parked
    let active : SlotState → Bool := fun x => decide (x = .active)
    (∀ e ∈ s.plans, e.key = k →
      t.committed = some
        { period := s.config.period
          fields := { counts := k, lagB := e.lagB, lagC := e.lagC, r := e.r, source := .table k,
                      parked := [] } } ∧
      ∀ i, candidate i → (t.slot i).state = .active) ∧
    ((∀ e ∈ s.plans, e.key ≠ k) →
      (∃ parked : List Slot, t.committed = some
        { period := s.config.period
          fields := { counts := { a := m, b := m, c := m }, lagB := 1200, lagC := 2400,
                      r := 1000 * m / s.n, source := .fallback, parked := parked } } ∧
        parked.Pairwise (· < ·) ∧
        ∀ i, i ∈ parked ↔ candidate i ∧ m ≤ s.placeOf SlotState.candidate i) ∧
      ∀ i, candidate i →
        (t.slot i).state = if s.placeOf SlotState.candidate i < m then .active else .parked) ∧
    (∀ i, ¬candidate i → (t.slot i).state = (s.slot i).state ∧
      (t.slot i).contactor = (s.slot i).contactor) ∧
    (∀ i, (t.slot i).fault = (s.slot i).fault ∧ (t.slot i).link = (s.slot i).link ∧
      (t.slot i).offset =
        if (t.slot i).state = .active then
          let n := t.countPhase active (i.val / 9)
          some ((t.placeOf active i * s.config.period / (2 * n) +
            i.val / 9 * s.config.period / (6 * n)) % s.config.period)
        else none) ∧
    t.sync = s.sync + 1 ∧
    t.notices = ((List.finRange 27).foldl (fun (u : State) i =>
      if (t.slot i).state = (s.slot i).state then u
      else u.offer (.cellState i (s.slot i).state (t.slot i).state 0)) s).notices ∧
    t.config = s.config ∧ t.extLines = s.extLines ∧ t.windows = s.windows ∧ t.plans = s.plans ∧
    t.drive = s.drive ∧ t.episode = s.episode ∧ t.speed = s.speed ∧ t.mod = s.mod ∧ t.link = s.link ∧
    t.outputs.brkDemand = s.outputs.brkDemand ∧ t.outputs.rideActive = s.outputs.rideActive ∧
    t.partTime = s.partTime ∧ t.beatAt = s.beatAt

/-- Within each phase, the carrier offsets a commit gives the ACTIVE slots ascend with position, so they are
pairwise distinct, and each lies in the first half of the carrier period that the committed plan keeps and the
frames carry (R126). -/
def Obligations.CarrierOffsetsAreDistinct : Prop :=
  ∀ s : State, ConfigInRange s.config →
    s.commit.committed.map (·.period) = some s.config.period ∧
    ∀ i : Slot, (s.commit.slot i).state = .active →
    ∃ a, (s.commit.slot i).offset = some a ∧ 2 * a < s.config.period ∧
      ∀ j : Slot, i < j → j.val / 9 = i.val / 9 → (s.commit.slot j).state = .active →
        ∃ b, (s.commit.slot j).offset = some b ∧ a < b

/-! ## The cell links -/

/-- The applied values of a beat are 0 and 0 but in RUNNING with a reference in force and in RIDING in
MAGNETIZE, at its ramp value, and HANDOVER (R123, R119). The beat sends every configured slot, and no other,
the command frame formed from the values standing, RUN only to ACTIVE slots and ZERO only to PARKED ones while
the cascade is modulating; it clears the bus-low latch of a slot not sent RUN; then the angle advances by 36 f
modulo 36000000 and in MAGNETIZE the ramp position by one, up to the last ramp beat, which hands the ramp's
completion on; the answer window of the beat before closes, owing a missing answer if no good frame was taken in
it, its group of characters is dropped, and a new one opens (R25 to R30, R35, R119 to R121, R123, R124, R178;
the window is log entry 11, the count of the windows owed with it). -/
def Obligations.BeatSendsCommandFrames : Prop :=
  ∀ s : State,
    (s.drive.state = .unconfigured ∨ s.drive.state = .stopped ∨ s.drive.state = .halted →
      s.applied = (0, 0)) ∧
    (s.drive.state = .running → s.drive.reference = none → s.applied = (0, 0)) ∧
    (∀ r, s.drive.state = .running → s.drive.reference = some r → s.applied = (r.mag, r.freq)) ∧
    (∀ e c, s.drive.state = .riding → s.episode.current = some e → e.capture = some c →
      (e.phase = .magnetize → s.applied = (c.ut * s.mod.rampPos / (10 * s.config.ramp), c.fr)) ∧
      (e.phase = .handover → s.applied = (c.ut, c.fr))) ∧
    (∀ e, s.drive.state = .riding → s.episode.current = some e → e.phase ≠ .magnetize →
      e.phase ≠ .handover → s.applied = (0, 0)) ∧
    (s.inReset = false → 100 ≤ (s.partTime - s.beatAt).toNat →
      let magnetize : Bool :=
        decide (s.drive.state = .riding ∧ s.episode.current.map (·.phase) = some .magnetize)
      let modulating : Bool := decide (s.drive.state = .running) || magnetize ||
        decide (s.drive.state = .riding ∧ s.episode.current.map (·.phase) = some .handover)
      let mode (i : Slot) : Mode :=
        if modulating = true ∧ (s.slot i).state = .active then .run
        else if modulating = true ∧ (s.slot i).state = .parked then .zero else .block
      let lag (c : CommittedPlan) (i : Slot) : Nat :=
        if i.val < 9 then 0 else if i.val < 18 then c.fields.lagB else c.fields.lagC
      let frame (i : Slot) : CommandFrame :=
        { mode := mode i
          index := match s.committed with
            | none => 0
            | some c => if mode i = .run then
                min 1000 ((2 * (1000 * s.applied.1) + c.fields.r) / (2 * c.fields.r)) else 0
          angle := match s.committed with
            | none => 0
            | some c => (((s.mod.theta / 10000 : Nat) - (lag c i : Int)) % 3600).toNat
          offset := (s.slot i).offset.getD 0
          period := match s.committed with
            | none => s.config.period
            | some c => c.period
          generation := s.sync }
      exec .beat s = .next { s with
        beatAt := s.partTime
        slots := Vector.ofFn fun i : Fin 27 =>
          let r := s.slot i
          if i.val % 9 + 1 ≤ s.n then { r with
            link := { r.link with
              busLow := if mode i = .run then r.link.busLow else false
              sent := some (frame i)
              wire := commandBytes (frame i)
              owed := if r.link.awaiting then r.link.owed + 1 else r.link.owed
              awaiting := true
              group := [] } }
          else r
        mod := { s.mod with
          mag := s.applied.1
          freq := s.applied.2
          theta := ((s.mod.theta + s.applied.2 * 36) % 36000000).toNat
          rampPos := if magnetize = true ∧ s.mod.rampPos < 10 * s.config.ramp then s.mod.rampPos + 1
            else s.mod.rampPos
          rampDone := (magnetize && decide (10 * s.config.ramp ≤ s.mod.rampPos)) || s.mod.rampDone } })

/-- The characters received on a link are taken one by one, the row they come with making no difference (log
entry 12). While a configured slot's answer window has no good frame yet they gather, from the window's first,
in groups of six. A group is a good frame exactly if its check is the CRC-8 of its other bytes, its bus voltage
is at most 2047, its code at most 0xFFF and its echo at most 3; any other is dropped, and a good one is taken: it sets the last status,
0 missing frames and the link up flag, evaluates the bus-low latch of an ACTIVE or PARKED slot whose frame was
sent RUN (log entry 10), presents the reported code, BUS_LOW or a clear while the slot is ACTIVE or PARKED, and
then, in RECHARGE with the recharge condition true, takes the episode to CAPTURE. Characters after the good
frame, or for a slot that is not configured or before its first window, change nothing (R30, R31, R34, R37 to
R39, R70, R178; the window is log entry 11). -/
def Obligations.GoodStatusFramesAreTaken : Prop :=
  (∀ r : CellReport, r.bus ≤ 2047 → r.code ≤ 0xFFF → r.echo ≤ 3 →
    reportOf (reportBytes r) = some r) ∧
  (∀ g : List Byte, g.length ≠ 6 → reportOf g = none) ∧
  (∀ b1 b0 c1 c0 echo check : Byte,
    let bus : Nat := 256 * b1.toNat + b0.toNat
    let code : Nat := 256 * c1.toNat + c0.toNat
    let good : Prop := check = crc8 [b1, b0, c1, c0, echo] ∧ bus ≤ 2047 ∧ code ≤ 0xFFF ∧ echo.toNat ≤ 3
    (good → reportOf [b1, b0, c1, c0, echo, check] =
      some { bus := bus, code := code, echo := echo.toNat }) ∧
    (¬good → reportOf [b1, b0, c1, c0, echo, check] = none)) ∧
  (∀ (i : Slot) (chars more : List Byte) (s : State),
    exec (.statusFrameBad i chars) s = exec (.statusFrameGood i chars) s ∧
    execAll [.statusFrameGood i chars, .statusFrameGood i more] s =
      exec (.statusFrameGood i (chars ++ more)) s) ∧
  ∀ (i : Slot) (chars : List Byte) (s : State), s.inReset = false →
    let x := s.slot i
    let all := x.link.group ++ chars
    let gathered (g : List Byte) : State := s.setSlot i { x with link := { x.link with group := g } }
    let waits : Prop := s.configured i = true ∧ x.link.awaiting = true
    (¬waits → exec (.statusFrameGood i chars) s = .next s) ∧
    (waits → all.length < 6 → exec (.statusFrameGood i chars) s = .next (gathered all)) ∧
    (waits → chars ≠ [] → all.length = 6 → reportOf all = none →
      exec (.statusFrameGood i chars) s = .next (gathered [])) ∧
    (∀ r, waits → chars ≠ [] → all.length = 6 → reportOf all = some r →
      let sampled : Prop := x.state = .active ∨ x.state = .parked
      let latch : Bool :=
        if (x.state = .active ∨ x.state = .parked) ∧ x.link.sent.map (·.mode) = some .run then
          (if r.bus < s.config.vTrip then true
            else if s.config.vRelease ≤ r.bus then false else x.link.busLow)
        else x.link.busLow
      let t := s.setSlot i { x with
        link := { x.link with
          up := true, missing := 0, bus := r.bus, code := r.code, echo := r.echo, busLow := latch,
          awaiting := false, group := [] } }
      let shown : Presentation :=
        if r.code ≠ 0 then .code (BitVec.ofNat 16 (0x1000 + r.code))
        else if latch then .code 0x2002 else .clear
      ∀ u : State, (sampled → u = t.present (.slot i) shown) → (¬sampled → u = t) →
        let ready : Prop := u.episode.current.map (·.phase) = some .recharge ∧
          ∀ j, ((u.slot j).state = .active ∨ (u.slot j).state = .parked →
              (u.slot j).link.echo = u.sync.toNat) ∧
            ((u.slot j).state = .active → u.config.vRelease ≤ (u.slot j).link.bus)
        (ready → exec (.statusFrameGood i chars) s = .next { u with
          episode := { u.episode with
            current := u.episode.current.map fun e => { e with phase := .capture } } }) ∧
        (¬ready → exec (.statusFrameGood i chars) s = .next u))

/-- A missing answer of a configured slot adds one to its missing frames, up to 255, and clears the link up
flag once they reach L; an ACTIVE or PARKED slot then presents LINK_LOSS if they have, and a missed
presentation otherwise. It is that of a window that has closed, one for each, or else that of the open window,
which closes with it and drops its group; nothing else of the slot changes but awaiting and owed, which stand
for the windows (R30, R32, R33, R38, R39, R178; log entry 11). The
command of a slot that is not configured or has no answer missing changes nothing (log entry 7). -/
def Obligations.MissingAnswersAreCounted : Prop :=
  ∀ (i : Slot) (s : State), s.inReset = false →
    let x := s.slot i
    let n : Nat := min 255 (x.link.missing + 1)
    let t := s.setSlot i { x with
      link := { x.link with
        missing := n
        up := if s.config.linkLoss ≤ n then false else x.link.up
        owed := if 0 < x.link.owed then x.link.owed - 1 else 0
        awaiting := if 0 < x.link.owed then x.link.awaiting else false
        group := if 0 < x.link.owed then x.link.group else [] } }
    (s.configured i = false ∨ (x.link.owed = 0 ∧ x.link.awaiting = false) →
      exec (.answerMissing i) s = .next s) ∧
    (s.configured i = true → 0 < x.link.owed ∨ x.link.awaiting = true →
      (x.state ≠ .active → x.state ≠ .parked → exec (.answerMissing i) s = .next t) ∧
      (x.state = .active ∨ x.state = .parked →
        (s.config.linkLoss ≤ n → exec (.answerMissing i) s = .next (t.present (.slot i) (.code 0x2001))) ∧
        (n < s.config.linkLoss → exec (.answerMissing i) s = .next (t.present (.slot i) .missed))))

/-! ## Restart episodes -/

/-- The opening of an episode for a slot, the drive being RUNNING: the drive is RIDING with the supervision
timer stopped and the reference dropped, RIDE_ACTIVE is asserted, the record has the next number, the window
and settle timers start, the applied magnitude is 0 and one EPISODE_OPENED notice is offered; with a settle
time of 0 the episode is in BYPASS in the same step and a FAULTED slot's bypass starts (R63, R64, R65, R66,
R67). -/
def Obligations.EpisodeOpensInIsolate : Prop :=
  ∀ (i : Slot) (c : Code) (route : Nat) (s : State), s.drive.state = .running →
    let number : Nat := if s.episode.counter = 65535 then 1 else s.episode.counter + 1
    let opened (phase : EpisodePhase) (settle : Option Timer) : State :=
      State.offer (.episodeOpened number i c s.speed.last.f) { s with
        drive := { s.drive with state := .riding, supervision := none, reference := none }
        outputs := { s.outputs with rideActive := true }
        episode := { s.episode with
          current := some
            { number := number, opened := s.partTime, phase := phase, fTrip := s.speed.last.f
              involved := [{ slot := i, code := c, route := route, closeTime := none, outcome := .pending }]
              reisolations := 0, plan := none, capture := none, outcome := none, closed := none }
          counter := number
          settle := settle
          window := some { start := s.partTime, length := 1000 * s.config.window } }
        mod := { s.mod with mag := 0 } }
    (s.config.settle ≠ 0 → s.openEpisode i c route =
      opened .isolate (some { start := s.partTime, length := 1000 * s.config.settle })) ∧
    (s.config.settle = 0 → (s.slot i).state = .faulted → ∀ f, (s.slot i).fault.last = some f →
      s.openEpisode i c route = (opened .bypass none).enterState i .bypassing f.code)

/-- When the settle timer expires the episode is in BYPASS and the listed FAULTED slots start their bypasses
together, each with its last qualified fault's code as cause, their notices in slot order (R7, R67). Each
completed bypass of a listed slot is checked: in BYPASS with every entry BYPASSED the episode enters PLAN,
where it fails INSUFFICIENT_CELLS if a phase has fewer than min_cells candidates, and else commits, copies the
plan and enters RECHARGE (R68, R69). -/
def Obligations.BypassesLeadToThePlan : Prop :=
  (∀ (e : EpisodeRecord) (t : Timer) (s : State), s.inReset = false → s.episode.current = some e →
    e.phase = .isolate → s.episode.settle = some t → t.length ≤ (s.partTime - t.start).toNat →
    (∃ v ∈ e.involved, v.outcome ≠ .bypassed) →
    exec .settleExpiry s = .next (State.startAllFaulted
      (fun i => e.involved.any fun v => decide (v.slot = i)) { s with
        episode := { s.episode with settle := none, current := some { e with phase := .bypass } } })) ∧
  (∀ (p : Slot → Bool) (s : State),
    let t := s.startAllFaulted p
    (∀ i, t.slot i = if (s.slot i).state = .faulted ∧ p i = true
      then (s.enterState i .bypassing (s.slot i).faultCause).slot i else s.slot i) ∧
    t.notices = ((List.finRange 27).foldl (fun (u : State) i =>
      if (s.slot i).state = .faulted ∧ p i = true
        then u.offer (.cellState i .faulted .bypassing (s.slot i).faultCause) else u) s).notices ∧
    (∀ i f, (s.slot i).fault.last = some f → (s.slot i).faultCause = f.code) ∧
    t.drive = s.drive ∧ t.committed = s.committed ∧ t.mod = s.mod ∧ t.episode = s.episode) ∧
  ∀ (e : EpisodeRecord) (s : State), s.episode.current = some e →
    let done : Prop := e.phase = .bypass ∧ ∀ v ∈ e.involved, v.outcome = .bypassed
    let few : Prop := ∃ x, x < 3 ∧ s.countPhase SlotState.candidate x < s.config.minCells
    let planning : State :=
      { s with episode := { s.episode with current := some { e with phase := .plan } } }
    (¬done → s.checkBypass = s) ∧
    (done → few → s.checkBypass = planning.failEpisode .insufficientCells 0x6002) ∧
    (done → ¬few → s.checkBypass = { s.commit with
      episode := { s.episode with
        current := some { e with
          phase := .recharge, plan := s.commit.committed.map (·.fields) } } })

/-- The ramp's completion, taken in MAGNETIZE, stops the window timer, starts the handover timer, offers one
RESTART_READY notice and takes the episode to HANDOVER (R73). That the command in another phase (R74), or with
no completion handed on, changes nothing is the model's choice (log entry 7). -/
def Obligations.RampCompletionHandsOver : Prop :=
  ∀ (e : EpisodeRecord) (s : State), s.inReset = false → s.episode.current = some e →
    (e.phase ≠ .magnetize ∨ s.mod.rampDone = false → exec .rampCompletion s = .next s) ∧
    (∀ c, e.phase = .magnetize → s.mod.rampDone = true → e.capture = some c →
      exec .rampCompletion s = .next (State.offer
        (.restartReady e.number c.fr c.ut s.ratio c.fCeil c.reduced) { s with
          episode := { s.episode with
            window := none
            handover := some { start := s.partTime, length := 1000 * s.config.handover }
            current := some { e with phase := .handover } }
          mod := { s.mod with rampDone := false } }))

/-- A failure of the open episode stops its timers, abandons the ramp, offers EPISODE_CLOSED, enters the
closed record in the history as entry 1, makes the drive HALTED with the cause code, BRK_DEMAND asserted and
RIDE_ACTIVE released, offers DRIVE_STATE, and then starts the bypass of every slot still FAULTED. The window
timer's expiry fails it with cause WINDOW, the handover timer's with cause HANDOVER_TIMEOUT (R7, R76, R85,
R89, R90). -/
def Obligations.FailuresCloseTheEpisode : Prop :=
  ∀ (e : EpisodeRecord) (s : State), s.episode.current = some e →
    (∀ (cause : FailureCause) (code : Code),
      let t : State := State.offer (.episodeClosed e.number (some cause)) { s with
        episode := { s.episode with settle := none, window := none, handover := none }
        mod := { s.mod with mag := 0, rampPos := 0, rampDone := false } }
      s.failEpisode cause code = State.startAllFaulted (fun _ => true)
        (State.offer (.driveState .halted code) { t with
          episode := { t.episode with
            current := none
            history := ({ e with outcome := some (.failed cause code), closed := some s.partTime } ::
              s.episode.history).take 4 }
          drive := { s.drive with state := .halted, haltCause := some code }
          outputs := { t.outputs with brkDemand := true, rideActive := false } })) ∧
    (∀ t, s.inReset = false → s.episode.window = some t → t.length ≤ (s.partTime - t.start).toNat →
      exec .windowExpiry s = .next (s.failEpisode .window 0x6001)) ∧
    (∀ t, s.inReset = false → s.episode.handover = some t → t.length ≤ (s.partTime - t.start).toNat →
      exec .handoverExpiry s = .next (s.failEpisode .handoverTimeout 0x6004))

/-- A RIDE qualification offered to the open episode fails it with cause TOO_MANY_FAULTS if F_max entries are
held, and else lists the slot: held in ISOLATE; its bypass started at once in BYPASS, and in RECHARGE and
CAPTURE with the episode back in BYPASS; in MAGNETIZE and HANDOVER the episode is re-isolated, the ramp
abandoned, the capture absent, the count of re-isolations one more, and from HANDOVER the window started
anew (R77 to R82). -/
def Obligations.SecondFaultsAreListed : Prop :=
  ∀ (i : Slot) (c : Code) (route : Nat) (e : EpisodeRecord) (s : State), s.episode.current = some e →
    let more : List InvolvedEntry :=
      e.involved ++ [{ slot := i, code := c, route := route, closeTime := none, outcome := .pending }]
    let listed (phase : EpisodePhase) : State :=
      { s with episode := { s.episode with current := some { e with involved := more, phase := phase } } }
    let back (phase : EpisodePhase) (settle : Option Timer) : State := { s with
      mod := { s.mod with mag := 0, rampPos := 0, rampDone := false }
      episode := { s.episode with
        settle := settle
        window := if e.phase = .handover
          then some { start := s.partTime, length := 1000 * s.config.window } else s.episode.window
        handover := if e.phase = .handover then none else s.episode.handover
        current := some { e with
          involved := more, phase := phase, reisolations := min 255 (e.reisolations + 1),
          capture := none } } }
    let moving : Prop := e.phase = .magnetize ∨ e.phase = .handover
    (s.config.fMax ≤ e.involved.length →
      s.offerToEpisode i c route = s.failEpisode .tooManyFaults 0x6003) ∧
    (e.involved.length < s.config.fMax →
      (e.phase = .isolate → s.offerToEpisode i c route = listed .isolate) ∧
      (∀ f, (s.slot i).fault.last = some f →
        e.phase = .bypass ∨ e.phase = .recharge ∨ e.phase = .capture →
        s.offerToEpisode i c route = (listed .bypass).enterState i .bypassing f.code) ∧
      (moving → s.config.settle ≠ 0 → s.offerToEpisode i c route =
        back .isolate (some { start := s.partTime, length := 1000 * s.config.settle })) ∧
      (moving → s.config.settle = 0 → s.offerToEpisode i c route =
        (back .bypass none).startAllFaulted fun j => more.any fun v => decide (v.slot = j)))

/-! ## The speed unit -/

/-- A gate completion makes the gate's result the last speed result and starts the next gate. The result's
frequency is 0 for a count below 2 in magnitude, else C p 25000 / (E W) rounded half away from zero and held
within 32767. It is judged in the order overspeed, runaway, encoder: a halt in STOPPED and RUNNING, a failure
of the open episode in RIDING, a notice at most in HALTED; one that no guard acts on is captured in CAPTURE,
which takes the episode to MAGNETIZE (R71, R86, R110 to R117). -/
def Obligations.GateCompletionIsJudged : Prop :=
  ∀ (g : Gate) (s : State), s.inReset = false → s.speed.gate = some g →
    1000 * g.length ≤ (s.partTime - g.start).toNat →
    let d : Nat := g.encoderLines * g.length
    let rounded : Nat := if g.count.natAbs < 2 then 0
      else (2 * (g.count.natAbs * g.polePairs * 25000) + d) / (2 * d)
    let f : Int := if g.count < 0 then -(min 32767 rounded : Nat) else (min 32767 rounded : Nat)
    let valid : Bool := decide (g.illegal < 8)
    let u : State := { s with
      speed := { s.speed with
        last := { f := f, count := g.count, valid := valid, saturated := decide (32767 < rounded),
                  time := s.partTime }
        gate := some
          { start := s.partTime, encoderLines := s.config.encoderLines, polePairs := s.config.polePairs,
            length := s.config.gate, count := 0, illegal := 0 } } }
    let becomes (t : State) : Prop := exec .gateCompletion s = .next t
    let tooFast : Prop := s.config.fOver < f.natAbs
    (s.drive.state = .unconfigured → becomes u) ∧
    (s.drive.state = .stopped ∨ s.drive.state = .running →
      (tooFast → becomes (u.halt 0x5001)) ∧ (¬tooFast → valid = false → becomes (u.halt 0x5003)) ∧
      (¬tooFast → valid = true → becomes u)) ∧
    (s.drive.state = .halted →
      (valid = false → s.speed.last.valid = true →
        becomes (u.offer (.faultNoted .speedUnit 0x5003 none))) ∧
      (valid = true ∨ s.speed.last.valid = false → becomes u)) ∧
    (∀ e, s.drive.state = .riding → s.episode.current = some e →
      let away : Prop := e.phase ≠ .handover ∧ e.fTrip.natAbs + s.config.runaway < f.natAbs
      (tooFast → becomes (u.failEpisode .overspeed 0x5001)) ∧
      (¬tooFast → away → becomes (u.failEpisode .runaway 0x5002)) ∧
      (¬tooFast → ¬away → valid = false → becomes (u.failEpisode .encoder 0x5003)) ∧
      (¬tooFast → ¬away → valid = true → e.phase ≠ .capture → becomes u) ∧
      (¬tooFast → ¬away → valid = true → e.phase = .capture →
        let raw : Nat :=
          (2 * (1000 * f.natAbs) + s.config.fRated) / (2 * s.config.fRated) + s.config.boost
        becomes { u with
          episode := { s.episode with
            current := some { e with
              phase := .magnetize
              capture := some
                { fr := f, ut := min raw s.ratio
                  fCeil := if s.config.boost < s.ratio
                    then (s.ratio - s.config.boost) * s.config.fRated / 1000 else 0
                  reduced := decide (s.ratio < raw) } } }
          mod := { s.mod with theta := 0, freq := f, rampPos := 0, rampDone := false } }))

/-- The first sample of the encoder lines after a device reset is only held. A later one is held in place of
the one before, and counts into the running gate: one up along the order 00, 10, 11, 01 of lines A and B, one
down against it, the count held within 24 bits; an illegal transition, up to 255, when both lines have
changed; nothing when neither has (R109). -/
def Obligations.EncoderSamplesAreCounted : Prop :=
  ∀ (a b : Bool) (s : State), s.inReset = false →
    let sampled (gate : Option Gate) : State :=
      { s with speed := { s.speed with held := some (a, b), gate := gate } }
    (s.speed.held = none → exec (.encoderSample a b) s = .next (sampled s.speed.gate)) ∧
    (s.speed.gate = none → exec (.encoderSample a b) s = .next (sampled none)) ∧
    (∀ x y g, s.speed.held = some (x, y) → s.speed.gate = some g →
      (a = x → b = y → exec (.encoderSample a b) s = .next (sampled (some g))) ∧
      (a = !y → b = x → exec (.encoderSample a b) s =
        .next (sampled (some { g with count := max (-8388608) (min 8388607 (g.count + 1)) }))) ∧
      (a = y → b = !x → exec (.encoderSample a b) s =
        .next (sampled (some { g with count := max (-8388608) (min 8388607 (g.count - 1)) }))) ∧
      (a = !x → b = !y → exec (.encoderSample a b) s =
        .next (sampled (some { g with illegal := min 255 (g.illegal + 1) }))))
end

