-- ==== Sys2Proof/Laws/State.lean ====
section
/-! SUPPORT. What each plain update of the state does to each field: one lemma per field per update. -/

namespace Sys2Proof.Machine

/-! ### `State.setSlot` -/
@[simp] theorem State.setSlot_config (i : Slot) (r : SlotRecord) (s : State) :
    (s.setSlot i r).config = s.config := rfl
@[simp] theorem State.setSlot_slots (i : Slot) (r : SlotRecord) (s : State) :
    (s.setSlot i r).slots = s.slots.set i r := rfl
@[simp] theorem State.setSlot_extLines (i : Slot) (r : SlotRecord) (s : State) :
    (s.setSlot i r).extLines = s.extLines := rfl
@[simp] theorem State.setSlot_windows (i : Slot) (r : SlotRecord) (s : State) :
    (s.setSlot i r).windows = s.windows := rfl
@[simp] theorem State.setSlot_plans (i : Slot) (r : SlotRecord) (s : State) :
    (s.setSlot i r).plans = s.plans := rfl
@[simp] theorem State.setSlot_committed (i : Slot) (r : SlotRecord) (s : State) :
    (s.setSlot i r).committed = s.committed := rfl
@[simp] theorem State.setSlot_sync (i : Slot) (r : SlotRecord) (s : State) :
    (s.setSlot i r).sync = s.sync := rfl
@[simp] theorem State.setSlot_beatAt (i : Slot) (r : SlotRecord) (s : State) :
    (s.setSlot i r).beatAt = s.beatAt := rfl
@[simp] theorem State.setSlot_drive (i : Slot) (r : SlotRecord) (s : State) :
    (s.setSlot i r).drive = s.drive := rfl
@[simp] theorem State.setSlot_episode (i : Slot) (r : SlotRecord) (s : State) :
    (s.setSlot i r).episode = s.episode := rfl
@[simp] theorem State.setSlot_speed (i : Slot) (r : SlotRecord) (s : State) :
    (s.setSlot i r).speed = s.speed := rfl
@[simp] theorem State.setSlot_mod (i : Slot) (r : SlotRecord) (s : State) :
    (s.setSlot i r).mod = s.mod := rfl
@[simp] theorem State.setSlot_notices (i : Slot) (r : SlotRecord) (s : State) :
    (s.setSlot i r).notices = s.notices := rfl
@[simp] theorem State.setSlot_link (i : Slot) (r : SlotRecord) (s : State) :
    (s.setSlot i r).link = s.link := rfl
@[simp] theorem State.setSlot_outputs (i : Slot) (r : SlotRecord) (s : State) :
    (s.setSlot i r).outputs = s.outputs := rfl
@[simp] theorem State.setSlot_partTime (i : Slot) (r : SlotRecord) (s : State) :
    (s.setSlot i r).partTime = s.partTime := rfl
@[simp] theorem State.setSlot_inReset (i : Slot) (r : SlotRecord) (s : State) :
    (s.setSlot i r).inReset = s.inReset := rfl
@[simp] theorem State.setSlot_freeReadings (i : Slot) (r : SlotRecord) (s : State) :
    (s.setSlot i r).freeReadings = s.freeReadings := rfl
@[simp] theorem State.setSlot_pending (i : Slot) (r : SlotRecord) (s : State) :
    (s.setSlot i r).pending = s.pending := rfl

/-! ### `State.setLine` -/
@[simp] theorem State.setLine_config (l : ExtLine) (r : LineRecord) (s : State) :
    (s.setLine l r).config = s.config := rfl
@[simp] theorem State.setLine_slots (l : ExtLine) (r : LineRecord) (s : State) :
    (s.setLine l r).slots = s.slots := rfl
@[simp] theorem State.setLine_extLines (l : ExtLine) (r : LineRecord) (s : State) :
    (s.setLine l r).extLines = s.extLines.set l r := rfl
@[simp] theorem State.setLine_windows (l : ExtLine) (r : LineRecord) (s : State) :
    (s.setLine l r).windows = s.windows := rfl
@[simp] theorem State.setLine_plans (l : ExtLine) (r : LineRecord) (s : State) :
    (s.setLine l r).plans = s.plans := rfl
@[simp] theorem State.setLine_committed (l : ExtLine) (r : LineRecord) (s : State) :
    (s.setLine l r).committed = s.committed := rfl
@[simp] theorem State.setLine_sync (l : ExtLine) (r : LineRecord) (s : State) :
    (s.setLine l r).sync = s.sync := rfl
@[simp] theorem State.setLine_beatAt (l : ExtLine) (r : LineRecord) (s : State) :
    (s.setLine l r).beatAt = s.beatAt := rfl
@[simp] theorem State.setLine_drive (l : ExtLine) (r : LineRecord) (s : State) :
    (s.setLine l r).drive = s.drive := rfl
@[simp] theorem State.setLine_episode (l : ExtLine) (r : LineRecord) (s : State) :
    (s.setLine l r).episode = s.episode := rfl
@[simp] theorem State.setLine_speed (l : ExtLine) (r : LineRecord) (s : State) :
    (s.setLine l r).speed = s.speed := rfl
@[simp] theorem State.setLine_mod (l : ExtLine) (r : LineRecord) (s : State) :
    (s.setLine l r).mod = s.mod := rfl
@[simp] theorem State.setLine_notices (l : ExtLine) (r : LineRecord) (s : State) :
    (s.setLine l r).notices = s.notices := rfl
@[simp] theorem State.setLine_link (l : ExtLine) (r : LineRecord) (s : State) :
    (s.setLine l r).link = s.link := rfl
@[simp] theorem State.setLine_outputs (l : ExtLine) (r : LineRecord) (s : State) :
    (s.setLine l r).outputs = s.outputs := rfl
@[simp] theorem State.setLine_partTime (l : ExtLine) (r : LineRecord) (s : State) :
    (s.setLine l r).partTime = s.partTime := rfl
@[simp] theorem State.setLine_inReset (l : ExtLine) (r : LineRecord) (s : State) :
    (s.setLine l r).inReset = s.inReset := rfl
@[simp] theorem State.setLine_freeReadings (l : ExtLine) (r : LineRecord) (s : State) :
    (s.setLine l r).freeReadings = s.freeReadings := rfl
@[simp] theorem State.setLine_pending (l : ExtLine) (r : LineRecord) (s : State) :
    (s.setLine l r).pending = s.pending := rfl

/-! ### `State.mapSlots` -/
@[simp] theorem State.mapSlots_config (f : Slot → SlotRecord → SlotRecord) (s : State) :
    (s.mapSlots f).config = s.config := by rw [State.mapSlots]
@[simp] theorem State.mapSlots_slots (f : Slot → SlotRecord → SlotRecord) (s : State) :
    (s.mapSlots f).slots = Vector.ofFn fun i => f i s.slots[i] := by rw [State.mapSlots]
@[simp] theorem State.mapSlots_extLines (f : Slot → SlotRecord → SlotRecord) (s : State) :
    (s.mapSlots f).extLines = s.extLines := by rw [State.mapSlots]
@[simp] theorem State.mapSlots_windows (f : Slot → SlotRecord → SlotRecord) (s : State) :
    (s.mapSlots f).windows = s.windows := by rw [State.mapSlots]
@[simp] theorem State.mapSlots_plans (f : Slot → SlotRecord → SlotRecord) (s : State) :
    (s.mapSlots f).plans = s.plans := by rw [State.mapSlots]
@[simp] theorem State.mapSlots_committed (f : Slot → SlotRecord → SlotRecord) (s : State) :
    (s.mapSlots f).committed = s.committed := by rw [State.mapSlots]
@[simp] theorem State.mapSlots_sync (f : Slot → SlotRecord → SlotRecord) (s : State) :
    (s.mapSlots f).sync = s.sync := by rw [State.mapSlots]
@[simp] theorem State.mapSlots_beatAt (f : Slot → SlotRecord → SlotRecord) (s : State) :
    (s.mapSlots f).beatAt = s.beatAt := by rw [State.mapSlots]
@[simp] theorem State.mapSlots_drive (f : Slot → SlotRecord → SlotRecord) (s : State) :
    (s.mapSlots f).drive = s.drive := by rw [State.mapSlots]
@[simp] theorem State.mapSlots_episode (f : Slot → SlotRecord → SlotRecord) (s : State) :
    (s.mapSlots f).episode = s.episode := by rw [State.mapSlots]
@[simp] theorem State.mapSlots_speed (f : Slot → SlotRecord → SlotRecord) (s : State) :
    (s.mapSlots f).speed = s.speed := by rw [State.mapSlots]
@[simp] theorem State.mapSlots_mod (f : Slot → SlotRecord → SlotRecord) (s : State) :
    (s.mapSlots f).mod = s.mod := by rw [State.mapSlots]
@[simp] theorem State.mapSlots_notices (f : Slot → SlotRecord → SlotRecord) (s : State) :
    (s.mapSlots f).notices = s.notices := by rw [State.mapSlots]
@[simp] theorem State.mapSlots_link (f : Slot → SlotRecord → SlotRecord) (s : State) :
    (s.mapSlots f).link = s.link := by rw [State.mapSlots]
@[simp] theorem State.mapSlots_outputs (f : Slot → SlotRecord → SlotRecord) (s : State) :
    (s.mapSlots f).outputs = s.outputs := by rw [State.mapSlots]
@[simp] theorem State.mapSlots_partTime (f : Slot → SlotRecord → SlotRecord) (s : State) :
    (s.mapSlots f).partTime = s.partTime := by rw [State.mapSlots]
@[simp] theorem State.mapSlots_inReset (f : Slot → SlotRecord → SlotRecord) (s : State) :
    (s.mapSlots f).inReset = s.inReset := by rw [State.mapSlots]
@[simp] theorem State.mapSlots_freeReadings (f : Slot → SlotRecord → SlotRecord) (s : State) :
    (s.mapSlots f).freeReadings = s.freeReadings := by rw [State.mapSlots]
@[simp] theorem State.mapSlots_pending (f : Slot → SlotRecord → SlotRecord) (s : State) :
    (s.mapSlots f).pending = s.pending := by rw [State.mapSlots]

/-! ### `State.updateAttn` -/
@[simp] theorem State.updateAttn_config (s : State) : s.updateAttn.config = s.config := rfl
@[simp] theorem State.updateAttn_slots (s : State) : s.updateAttn.slots = s.slots := rfl
@[simp] theorem State.updateAttn_extLines (s : State) : s.updateAttn.extLines = s.extLines := rfl
@[simp] theorem State.updateAttn_windows (s : State) : s.updateAttn.windows = s.windows := rfl
@[simp] theorem State.updateAttn_plans (s : State) : s.updateAttn.plans = s.plans := rfl
@[simp] theorem State.updateAttn_committed (s : State) : s.updateAttn.committed = s.committed := rfl
@[simp] theorem State.updateAttn_sync (s : State) : s.updateAttn.sync = s.sync := rfl
@[simp] theorem State.updateAttn_beatAt (s : State) : s.updateAttn.beatAt = s.beatAt := rfl
@[simp] theorem State.updateAttn_drive (s : State) : s.updateAttn.drive = s.drive := rfl
@[simp] theorem State.updateAttn_episode (s : State) : s.updateAttn.episode = s.episode := rfl
@[simp] theorem State.updateAttn_speed (s : State) : s.updateAttn.speed = s.speed := rfl
@[simp] theorem State.updateAttn_mod (s : State) : s.updateAttn.mod = s.mod := rfl
@[simp] theorem State.updateAttn_notices (s : State) : s.updateAttn.notices = s.notices := rfl
@[simp] theorem State.updateAttn_link (s : State) : s.updateAttn.link = s.link := rfl
@[simp] theorem State.updateAttn_outputs (s : State) :
    s.updateAttn.outputs = { s.outputs with attn := s.notices.attn } := rfl
@[simp] theorem State.updateAttn_partTime (s : State) : s.updateAttn.partTime = s.partTime := rfl
@[simp] theorem State.updateAttn_inReset (s : State) : s.updateAttn.inReset = s.inReset := rfl
@[simp] theorem State.updateAttn_freeReadings (s : State) :
    s.updateAttn.freeReadings = s.freeReadings := rfl
@[simp] theorem State.updateAttn_pending (s : State) : s.updateAttn.pending = s.pending := rfl

/-! ### `State.dropReference` -/
@[simp] theorem State.dropReference_config (s : State) : s.dropReference.config = s.config := rfl
@[simp] theorem State.dropReference_slots (s : State) : s.dropReference.slots = s.slots := rfl
@[simp] theorem State.dropReference_extLines (s : State) :
    s.dropReference.extLines = s.extLines := rfl
@[simp] theorem State.dropReference_windows (s : State) : s.dropReference.windows = s.windows := rfl
@[simp] theorem State.dropReference_plans (s : State) : s.dropReference.plans = s.plans := rfl
@[simp] theorem State.dropReference_committed (s : State) :
    s.dropReference.committed = s.committed := rfl
@[simp] theorem State.dropReference_sync (s : State) : s.dropReference.sync = s.sync := rfl
@[simp] theorem State.dropReference_beatAt (s : State) : s.dropReference.beatAt = s.beatAt := rfl
@[simp] theorem State.dropReference_drive (s : State) :
    s.dropReference.drive = { s.drive with supervision := none, reference := none } := rfl
@[simp] theorem State.dropReference_episode (s : State) : s.dropReference.episode = s.episode := rfl
@[simp] theorem State.dropReference_speed (s : State) : s.dropReference.speed = s.speed := rfl
@[simp] theorem State.dropReference_mod (s : State) : s.dropReference.mod = s.mod := rfl
@[simp] theorem State.dropReference_notices (s : State) : s.dropReference.notices = s.notices := rfl
@[simp] theorem State.dropReference_link (s : State) : s.dropReference.link = s.link := rfl
@[simp] theorem State.dropReference_outputs (s : State) : s.dropReference.outputs = s.outputs := rfl
@[simp] theorem State.dropReference_partTime (s : State) :
    s.dropReference.partTime = s.partTime := rfl
@[simp] theorem State.dropReference_inReset (s : State) : s.dropReference.inReset = s.inReset := rfl
@[simp] theorem State.dropReference_freeReadings (s : State) :
    s.dropReference.freeReadings = s.freeReadings := rfl
@[simp] theorem State.dropReference_pending (s : State) : s.dropReference.pending = s.pending := rfl

/-! ### `State.zeroApplied` -/
@[simp] theorem State.zeroApplied_config (s : State) : s.zeroApplied.config = s.config := rfl
@[simp] theorem State.zeroApplied_slots (s : State) : s.zeroApplied.slots = s.slots := rfl
@[simp] theorem State.zeroApplied_extLines (s : State) : s.zeroApplied.extLines = s.extLines := rfl
@[simp] theorem State.zeroApplied_windows (s : State) : s.zeroApplied.windows = s.windows := rfl
@[simp] theorem State.zeroApplied_plans (s : State) : s.zeroApplied.plans = s.plans := rfl
@[simp] theorem State.zeroApplied_committed (s : State) :
    s.zeroApplied.committed = s.committed := rfl
@[simp] theorem State.zeroApplied_sync (s : State) : s.zeroApplied.sync = s.sync := rfl
@[simp] theorem State.zeroApplied_beatAt (s : State) : s.zeroApplied.beatAt = s.beatAt := rfl
@[simp] theorem State.zeroApplied_drive (s : State) : s.zeroApplied.drive = s.drive := rfl
@[simp] theorem State.zeroApplied_episode (s : State) : s.zeroApplied.episode = s.episode := rfl
@[simp] theorem State.zeroApplied_speed (s : State) : s.zeroApplied.speed = s.speed := rfl
@[simp] theorem State.zeroApplied_mod (s : State) :
    s.zeroApplied.mod = { s.mod with mag := 0, freq := 0 } := rfl
@[simp] theorem State.zeroApplied_notices (s : State) : s.zeroApplied.notices = s.notices := rfl
@[simp] theorem State.zeroApplied_link (s : State) : s.zeroApplied.link = s.link := rfl
@[simp] theorem State.zeroApplied_outputs (s : State) : s.zeroApplied.outputs = s.outputs := rfl
@[simp] theorem State.zeroApplied_partTime (s : State) : s.zeroApplied.partTime = s.partTime := rfl
@[simp] theorem State.zeroApplied_inReset (s : State) : s.zeroApplied.inReset = s.inReset := rfl
@[simp] theorem State.zeroApplied_freeReadings (s : State) :
    s.zeroApplied.freeReadings = s.freeReadings := rfl
@[simp] theorem State.zeroApplied_pending (s : State) : s.zeroApplied.pending = s.pending := rfl

/-! ### `State.setHalted` -/
@[simp] theorem State.setHalted_config (c : Code) (s : State) :
    (s.setHalted c).config = s.config := rfl
@[simp] theorem State.setHalted_slots (c : Code) (s : State) :
    (s.setHalted c).slots = s.slots := rfl
@[simp] theorem State.setHalted_extLines (c : Code) (s : State) :
    (s.setHalted c).extLines = s.extLines := rfl
@[simp] theorem State.setHalted_windows (c : Code) (s : State) :
    (s.setHalted c).windows = s.windows := rfl
@[simp] theorem State.setHalted_plans (c : Code) (s : State) :
    (s.setHalted c).plans = s.plans := rfl
@[simp] theorem State.setHalted_committed (c : Code) (s : State) :
    (s.setHalted c).committed = s.committed := rfl
@[simp] theorem State.setHalted_sync (c : Code) (s : State) : (s.setHalted c).sync = s.sync := rfl
@[simp] theorem State.setHalted_beatAt (c : Code) (s : State) :
    (s.setHalted c).beatAt = s.beatAt := rfl
@[simp] theorem State.setHalted_drive (c : Code) (s : State) :
    (s.setHalted c).drive = { s.drive with state := .halted, haltCause := some c } := rfl
@[simp] theorem State.setHalted_episode (c : Code) (s : State) :
    (s.setHalted c).episode = s.episode := rfl
@[simp] theorem State.setHalted_speed (c : Code) (s : State) :
    (s.setHalted c).speed = s.speed := rfl
@[simp] theorem State.setHalted_mod (c : Code) (s : State) : (s.setHalted c).mod = s.mod := rfl
@[simp] theorem State.setHalted_notices (c : Code) (s : State) :
    (s.setHalted c).notices = s.notices := rfl
@[simp] theorem State.setHalted_link (c : Code) (s : State) : (s.setHalted c).link = s.link := rfl
@[simp] theorem State.setHalted_outputs (c : Code) (s : State) :
    (s.setHalted c).outputs = { s.outputs with brkDemand := true } := rfl
@[simp] theorem State.setHalted_partTime (c : Code) (s : State) :
    (s.setHalted c).partTime = s.partTime := rfl
@[simp] theorem State.setHalted_inReset (c : Code) (s : State) :
    (s.setHalted c).inReset = s.inReset := rfl
@[simp] theorem State.setHalted_freeReadings (c : Code) (s : State) :
    (s.setHalted c).freeReadings = s.freeReadings := rfl
@[simp] theorem State.setHalted_pending (c : Code) (s : State) :
    (s.setHalted c).pending = s.pending := rfl

/-! ### `State.mapEpisode` -/
@[simp] theorem State.mapEpisode_config (f : EpisodeRecord → EpisodeRecord) (s : State) :
    (s.mapEpisode f).config = s.config := rfl
@[simp] theorem State.mapEpisode_slots (f : EpisodeRecord → EpisodeRecord) (s : State) :
    (s.mapEpisode f).slots = s.slots := rfl
@[simp] theorem State.mapEpisode_extLines (f : EpisodeRecord → EpisodeRecord) (s : State) :
    (s.mapEpisode f).extLines = s.extLines := rfl
@[simp] theorem State.mapEpisode_windows (f : EpisodeRecord → EpisodeRecord) (s : State) :
    (s.mapEpisode f).windows = s.windows := rfl
@[simp] theorem State.mapEpisode_plans (f : EpisodeRecord → EpisodeRecord) (s : State) :
    (s.mapEpisode f).plans = s.plans := rfl
@[simp] theorem State.mapEpisode_committed (f : EpisodeRecord → EpisodeRecord) (s : State) :
    (s.mapEpisode f).committed = s.committed := rfl
@[simp] theorem State.mapEpisode_sync (f : EpisodeRecord → EpisodeRecord) (s : State) :
    (s.mapEpisode f).sync = s.sync := rfl
@[simp] theorem State.mapEpisode_beatAt (f : EpisodeRecord → EpisodeRecord) (s : State) :
    (s.mapEpisode f).beatAt = s.beatAt := rfl
@[simp] theorem State.mapEpisode_drive (f : EpisodeRecord → EpisodeRecord) (s : State) :
    (s.mapEpisode f).drive = s.drive := rfl
@[simp] theorem State.mapEpisode_episode (f : EpisodeRecord → EpisodeRecord) (s : State) :
    (s.mapEpisode f).episode = { s.episode with current := s.episode.current.map f } := rfl
@[simp] theorem State.mapEpisode_speed (f : EpisodeRecord → EpisodeRecord) (s : State) :
    (s.mapEpisode f).speed = s.speed := rfl
@[simp] theorem State.mapEpisode_mod (f : EpisodeRecord → EpisodeRecord) (s : State) :
    (s.mapEpisode f).mod = s.mod := rfl
@[simp] theorem State.mapEpisode_notices (f : EpisodeRecord → EpisodeRecord) (s : State) :
    (s.mapEpisode f).notices = s.notices := rfl
@[simp] theorem State.mapEpisode_link (f : EpisodeRecord → EpisodeRecord) (s : State) :
    (s.mapEpisode f).link = s.link := rfl
@[simp] theorem State.mapEpisode_outputs (f : EpisodeRecord → EpisodeRecord) (s : State) :
    (s.mapEpisode f).outputs = s.outputs := rfl
@[simp] theorem State.mapEpisode_partTime (f : EpisodeRecord → EpisodeRecord) (s : State) :
    (s.mapEpisode f).partTime = s.partTime := rfl
@[simp] theorem State.mapEpisode_inReset (f : EpisodeRecord → EpisodeRecord) (s : State) :
    (s.mapEpisode f).inReset = s.inReset := rfl
@[simp] theorem State.mapEpisode_freeReadings (f : EpisodeRecord → EpisodeRecord) (s : State) :
    (s.mapEpisode f).freeReadings = s.freeReadings := rfl
@[simp] theorem State.mapEpisode_pending (f : EpisodeRecord → EpisodeRecord) (s : State) :
    (s.mapEpisode f).pending = s.pending := rfl

/-! ### `State.setPhase` -/
@[simp] theorem State.setPhase_config (p : EpisodePhase) (s : State) :
    (s.setPhase p).config = s.config := rfl
@[simp] theorem State.setPhase_slots (p : EpisodePhase) (s : State) :
    (s.setPhase p).slots = s.slots := rfl
@[simp] theorem State.setPhase_extLines (p : EpisodePhase) (s : State) :
    (s.setPhase p).extLines = s.extLines := rfl
@[simp] theorem State.setPhase_windows (p : EpisodePhase) (s : State) :
    (s.setPhase p).windows = s.windows := rfl
@[simp] theorem State.setPhase_plans (p : EpisodePhase) (s : State) :
    (s.setPhase p).plans = s.plans := rfl
@[simp] theorem State.setPhase_committed (p : EpisodePhase) (s : State) :
    (s.setPhase p).committed = s.committed := rfl
@[simp] theorem State.setPhase_sync (p : EpisodePhase) (s : State) :
    (s.setPhase p).sync = s.sync := rfl
@[simp] theorem State.setPhase_beatAt (p : EpisodePhase) (s : State) :
    (s.setPhase p).beatAt = s.beatAt := rfl
@[simp] theorem State.setPhase_drive (p : EpisodePhase) (s : State) :
    (s.setPhase p).drive = s.drive := rfl
@[simp] theorem State.setPhase_episode (p : EpisodePhase) (s : State) :
    (s.setPhase p).episode = { s.episode with current := s.episode.current.map fun e => { e with phase := p } } := rfl
@[simp] theorem State.setPhase_speed (p : EpisodePhase) (s : State) :
    (s.setPhase p).speed = s.speed := rfl
@[simp] theorem State.setPhase_mod (p : EpisodePhase) (s : State) :
    (s.setPhase p).mod = s.mod := rfl
@[simp] theorem State.setPhase_notices (p : EpisodePhase) (s : State) :
    (s.setPhase p).notices = s.notices := rfl
@[simp] theorem State.setPhase_link (p : EpisodePhase) (s : State) :
    (s.setPhase p).link = s.link := rfl
@[simp] theorem State.setPhase_outputs (p : EpisodePhase) (s : State) :
    (s.setPhase p).outputs = s.outputs := rfl
@[simp] theorem State.setPhase_partTime (p : EpisodePhase) (s : State) :
    (s.setPhase p).partTime = s.partTime := rfl
@[simp] theorem State.setPhase_inReset (p : EpisodePhase) (s : State) :
    (s.setPhase p).inReset = s.inReset := rfl
@[simp] theorem State.setPhase_freeReadings (p : EpisodePhase) (s : State) :
    (s.setPhase p).freeReadings = s.freeReadings := rfl
@[simp] theorem State.setPhase_pending (p : EpisodePhase) (s : State) :
    (s.setPhase p).pending = s.pending := rfl

/-! ### `State.listSlot` -/
@[simp] theorem State.listSlot_config (i : Slot) (c : Code) (k : Nat) (s : State) :
    (s.listSlot i c k).config = s.config := rfl
@[simp] theorem State.listSlot_slots (i : Slot) (c : Code) (k : Nat) (s : State) :
    (s.listSlot i c k).slots = s.slots := rfl
@[simp] theorem State.listSlot_extLines (i : Slot) (c : Code) (k : Nat) (s : State) :
    (s.listSlot i c k).extLines = s.extLines := rfl
@[simp] theorem State.listSlot_windows (i : Slot) (c : Code) (k : Nat) (s : State) :
    (s.listSlot i c k).windows = s.windows := rfl
@[simp] theorem State.listSlot_plans (i : Slot) (c : Code) (k : Nat) (s : State) :
    (s.listSlot i c k).plans = s.plans := rfl
@[simp] theorem State.listSlot_committed (i : Slot) (c : Code) (k : Nat) (s : State) :
    (s.listSlot i c k).committed = s.committed := rfl
@[simp] theorem State.listSlot_sync (i : Slot) (c : Code) (k : Nat) (s : State) :
    (s.listSlot i c k).sync = s.sync := rfl
@[simp] theorem State.listSlot_beatAt (i : Slot) (c : Code) (k : Nat) (s : State) :
    (s.listSlot i c k).beatAt = s.beatAt := rfl
@[simp] theorem State.listSlot_drive (i : Slot) (c : Code) (k : Nat) (s : State) :
    (s.listSlot i c k).drive = s.drive := rfl
@[simp] theorem State.listSlot_episode (i : Slot) (c : Code) (k : Nat) (s : State) :
    (s.listSlot i c k).episode = { s.episode with
      current := s.episode.current.map fun e => { e with involved := e.involved ++ [newEntry i c k] } } := rfl
@[simp] theorem State.listSlot_speed (i : Slot) (c : Code) (k : Nat) (s : State) :
    (s.listSlot i c k).speed = s.speed := rfl
@[simp] theorem State.listSlot_mod (i : Slot) (c : Code) (k : Nat) (s : State) :
    (s.listSlot i c k).mod = s.mod := rfl
@[simp] theorem State.listSlot_notices (i : Slot) (c : Code) (k : Nat) (s : State) :
    (s.listSlot i c k).notices = s.notices := rfl
@[simp] theorem State.listSlot_link (i : Slot) (c : Code) (k : Nat) (s : State) :
    (s.listSlot i c k).link = s.link := rfl
@[simp] theorem State.listSlot_outputs (i : Slot) (c : Code) (k : Nat) (s : State) :
    (s.listSlot i c k).outputs = s.outputs := rfl
@[simp] theorem State.listSlot_partTime (i : Slot) (c : Code) (k : Nat) (s : State) :
    (s.listSlot i c k).partTime = s.partTime := rfl
@[simp] theorem State.listSlot_inReset (i : Slot) (c : Code) (k : Nat) (s : State) :
    (s.listSlot i c k).inReset = s.inReset := rfl
@[simp] theorem State.listSlot_freeReadings (i : Slot) (c : Code) (k : Nat) (s : State) :
    (s.listSlot i c k).freeReadings = s.freeReadings := rfl
@[simp] theorem State.listSlot_pending (i : Slot) (c : Code) (k : Nat) (s : State) :
    (s.listSlot i c k).pending = s.pending := rfl

/-! ### `State.stopTimers` -/
@[simp] theorem State.stopTimers_config (s : State) : s.stopTimers.config = s.config := rfl
@[simp] theorem State.stopTimers_slots (s : State) : s.stopTimers.slots = s.slots := rfl
@[simp] theorem State.stopTimers_extLines (s : State) : s.stopTimers.extLines = s.extLines := rfl
@[simp] theorem State.stopTimers_windows (s : State) : s.stopTimers.windows = s.windows := rfl
@[simp] theorem State.stopTimers_plans (s : State) : s.stopTimers.plans = s.plans := rfl
@[simp] theorem State.stopTimers_committed (s : State) : s.stopTimers.committed = s.committed := rfl
@[simp] theorem State.stopTimers_sync (s : State) : s.stopTimers.sync = s.sync := rfl
@[simp] theorem State.stopTimers_beatAt (s : State) : s.stopTimers.beatAt = s.beatAt := rfl
@[simp] theorem State.stopTimers_drive (s : State) : s.stopTimers.drive = s.drive := rfl
@[simp] theorem State.stopTimers_episode (s : State) :
    s.stopTimers.episode = { s.episode with settle := none, window := none, handover := none } := rfl
@[simp] theorem State.stopTimers_speed (s : State) : s.stopTimers.speed = s.speed := rfl
@[simp] theorem State.stopTimers_mod (s : State) : s.stopTimers.mod = s.mod := rfl
@[simp] theorem State.stopTimers_notices (s : State) : s.stopTimers.notices = s.notices := rfl
@[simp] theorem State.stopTimers_link (s : State) : s.stopTimers.link = s.link := rfl
@[simp] theorem State.stopTimers_outputs (s : State) : s.stopTimers.outputs = s.outputs := rfl
@[simp] theorem State.stopTimers_partTime (s : State) : s.stopTimers.partTime = s.partTime := rfl
@[simp] theorem State.stopTimers_inReset (s : State) : s.stopTimers.inReset = s.inReset := rfl
@[simp] theorem State.stopTimers_freeReadings (s : State) :
    s.stopTimers.freeReadings = s.freeReadings := rfl
@[simp] theorem State.stopTimers_pending (s : State) : s.stopTimers.pending = s.pending := rfl

/-! ### `State.abandonRamp` -/
@[simp] theorem State.abandonRamp_config (s : State) : s.abandonRamp.config = s.config := rfl
@[simp] theorem State.abandonRamp_slots (s : State) : s.abandonRamp.slots = s.slots := rfl
@[simp] theorem State.abandonRamp_extLines (s : State) : s.abandonRamp.extLines = s.extLines := rfl
@[simp] theorem State.abandonRamp_windows (s : State) : s.abandonRamp.windows = s.windows := rfl
@[simp] theorem State.abandonRamp_plans (s : State) : s.abandonRamp.plans = s.plans := rfl
@[simp] theorem State.abandonRamp_committed (s : State) :
    s.abandonRamp.committed = s.committed := rfl
@[simp] theorem State.abandonRamp_sync (s : State) : s.abandonRamp.sync = s.sync := rfl
@[simp] theorem State.abandonRamp_beatAt (s : State) : s.abandonRamp.beatAt = s.beatAt := rfl
@[simp] theorem State.abandonRamp_drive (s : State) : s.abandonRamp.drive = s.drive := rfl
@[simp] theorem State.abandonRamp_episode (s : State) : s.abandonRamp.episode = s.episode := rfl
@[simp] theorem State.abandonRamp_speed (s : State) : s.abandonRamp.speed = s.speed := rfl
@[simp] theorem State.abandonRamp_mod (s : State) :
    s.abandonRamp.mod = { s.mod with mag := 0, rampPos := 0, rampDone := false } := rfl
@[simp] theorem State.abandonRamp_notices (s : State) : s.abandonRamp.notices = s.notices := rfl
@[simp] theorem State.abandonRamp_link (s : State) : s.abandonRamp.link = s.link := rfl
@[simp] theorem State.abandonRamp_outputs (s : State) : s.abandonRamp.outputs = s.outputs := rfl
@[simp] theorem State.abandonRamp_partTime (s : State) : s.abandonRamp.partTime = s.partTime := rfl
@[simp] theorem State.abandonRamp_inReset (s : State) : s.abandonRamp.inReset = s.inReset := rfl
@[simp] theorem State.abandonRamp_freeReadings (s : State) :
    s.abandonRamp.freeReadings = s.freeReadings := rfl
@[simp] theorem State.abandonRamp_pending (s : State) : s.abandonRamp.pending = s.pending := rfl

/-! ### `State.setRide` -/
@[simp] theorem State.setRide_config (b : Bool) (s : State) : (s.setRide b).config = s.config := rfl
@[simp] theorem State.setRide_slots (b : Bool) (s : State) : (s.setRide b).slots = s.slots := rfl
@[simp] theorem State.setRide_extLines (b : Bool) (s : State) :
    (s.setRide b).extLines = s.extLines := rfl
@[simp] theorem State.setRide_windows (b : Bool) (s : State) :
    (s.setRide b).windows = s.windows := rfl
@[simp] theorem State.setRide_plans (b : Bool) (s : State) : (s.setRide b).plans = s.plans := rfl
@[simp] theorem State.setRide_committed (b : Bool) (s : State) :
    (s.setRide b).committed = s.committed := rfl
@[simp] theorem State.setRide_sync (b : Bool) (s : State) : (s.setRide b).sync = s.sync := rfl
@[simp] theorem State.setRide_beatAt (b : Bool) (s : State) : (s.setRide b).beatAt = s.beatAt := rfl
@[simp] theorem State.setRide_drive (b : Bool) (s : State) : (s.setRide b).drive = s.drive := rfl
@[simp] theorem State.setRide_episode (b : Bool) (s : State) :
    (s.setRide b).episode = s.episode := rfl
@[simp] theorem State.setRide_speed (b : Bool) (s : State) : (s.setRide b).speed = s.speed := rfl
@[simp] theorem State.setRide_mod (b : Bool) (s : State) : (s.setRide b).mod = s.mod := rfl
@[simp] theorem State.setRide_notices (b : Bool) (s : State) :
    (s.setRide b).notices = s.notices := rfl
@[simp] theorem State.setRide_link (b : Bool) (s : State) : (s.setRide b).link = s.link := rfl
@[simp] theorem State.setRide_outputs (b : Bool) (s : State) :
    (s.setRide b).outputs = { s.outputs with rideActive := b } := rfl
@[simp] theorem State.setRide_partTime (b : Bool) (s : State) :
    (s.setRide b).partTime = s.partTime := rfl
@[simp] theorem State.setRide_inReset (b : Bool) (s : State) :
    (s.setRide b).inReset = s.inReset := rfl
@[simp] theorem State.setRide_freeReadings (b : Bool) (s : State) :
    (s.setRide b).freeReadings = s.freeReadings := rfl
@[simp] theorem State.setRide_pending (b : Bool) (s : State) :
    (s.setRide b).pending = s.pending := rfl

/-! ### `State.beginEpisode` -/
@[simp] theorem State.beginEpisode_config (i : Slot) (c : Code) (k : Nat) (s : State) :
    (s.beginEpisode i c k).config = s.config := rfl
@[simp] theorem State.beginEpisode_slots (i : Slot) (c : Code) (k : Nat) (s : State) :
    (s.beginEpisode i c k).slots = s.slots := rfl
@[simp] theorem State.beginEpisode_extLines (i : Slot) (c : Code) (k : Nat) (s : State) :
    (s.beginEpisode i c k).extLines = s.extLines := rfl
@[simp] theorem State.beginEpisode_windows (i : Slot) (c : Code) (k : Nat) (s : State) :
    (s.beginEpisode i c k).windows = s.windows := rfl
@[simp] theorem State.beginEpisode_plans (i : Slot) (c : Code) (k : Nat) (s : State) :
    (s.beginEpisode i c k).plans = s.plans := rfl
@[simp] theorem State.beginEpisode_committed (i : Slot) (c : Code) (k : Nat) (s : State) :
    (s.beginEpisode i c k).committed = s.committed := rfl
@[simp] theorem State.beginEpisode_sync (i : Slot) (c : Code) (k : Nat) (s : State) :
    (s.beginEpisode i c k).sync = s.sync := rfl
@[simp] theorem State.beginEpisode_beatAt (i : Slot) (c : Code) (k : Nat) (s : State) :
    (s.beginEpisode i c k).beatAt = s.beatAt := rfl
@[simp] theorem State.beginEpisode_drive (i : Slot) (c : Code) (k : Nat) (s : State) :
    (s.beginEpisode i c k).drive = { s.drive with state := .riding, supervision := none, reference := none } := rfl
@[simp] theorem State.beginEpisode_episode (i : Slot) (c : Code) (k : Nat) (s : State) :
    (s.beginEpisode i c k).episode = { s.episode with
      current := some (s.newEpisode i c k)
      counter := nextNumber s.episode.counter
      window := some (s.timer s.config.window) } := rfl
@[simp] theorem State.beginEpisode_speed (i : Slot) (c : Code) (k : Nat) (s : State) :
    (s.beginEpisode i c k).speed = s.speed := rfl
@[simp] theorem State.beginEpisode_mod (i : Slot) (c : Code) (k : Nat) (s : State) :
    (s.beginEpisode i c k).mod = { s.mod with mag := 0 } := rfl
@[simp] theorem State.beginEpisode_notices (i : Slot) (c : Code) (k : Nat) (s : State) :
    (s.beginEpisode i c k).notices = s.notices := rfl
@[simp] theorem State.beginEpisode_link (i : Slot) (c : Code) (k : Nat) (s : State) :
    (s.beginEpisode i c k).link = s.link := rfl
@[simp] theorem State.beginEpisode_outputs (i : Slot) (c : Code) (k : Nat) (s : State) :
    (s.beginEpisode i c k).outputs = { s.outputs with rideActive := true } := rfl
@[simp] theorem State.beginEpisode_partTime (i : Slot) (c : Code) (k : Nat) (s : State) :
    (s.beginEpisode i c k).partTime = s.partTime := rfl
@[simp] theorem State.beginEpisode_inReset (i : Slot) (c : Code) (k : Nat) (s : State) :
    (s.beginEpisode i c k).inReset = s.inReset := rfl
@[simp] theorem State.beginEpisode_freeReadings (i : Slot) (c : Code) (k : Nat) (s : State) :
    (s.beginEpisode i c k).freeReadings = s.freeReadings := rfl
@[simp] theorem State.beginEpisode_pending (i : Slot) (c : Code) (k : Nat) (s : State) :
    (s.beginEpisode i c k).pending = s.pending := rfl

/-! ### `State.countReading` -/
@[simp] theorem State.countReading_config (mv : Nat) (s : State) :
    (s.countReading mv).config = s.config := rfl
@[simp] theorem State.countReading_slots (mv : Nat) (s : State) :
    (s.countReading mv).slots = s.slots := rfl
@[simp] theorem State.countReading_extLines (mv : Nat) (s : State) :
    (s.countReading mv).extLines = s.extLines := rfl
@[simp] theorem State.countReading_windows (mv : Nat) (s : State) :
    (s.countReading mv).windows = s.windows := rfl
@[simp] theorem State.countReading_plans (mv : Nat) (s : State) :
    (s.countReading mv).plans = s.plans := rfl
@[simp] theorem State.countReading_committed (mv : Nat) (s : State) :
    (s.countReading mv).committed = s.committed := rfl
@[simp] theorem State.countReading_sync (mv : Nat) (s : State) :
    (s.countReading mv).sync = s.sync := rfl
@[simp] theorem State.countReading_beatAt (mv : Nat) (s : State) :
    (s.countReading mv).beatAt = s.beatAt := rfl
@[simp] theorem State.countReading_drive (mv : Nat) (s : State) :
    (s.countReading mv).drive = s.drive := rfl
@[simp] theorem State.countReading_episode (mv : Nat) (s : State) :
    (s.countReading mv).episode = s.episode := rfl
@[simp] theorem State.countReading_speed (mv : Nat) (s : State) :
    (s.countReading mv).speed = s.speed := rfl
@[simp] theorem State.countReading_mod (mv : Nat) (s : State) :
    (s.countReading mv).mod = s.mod := rfl
@[simp] theorem State.countReading_notices (mv : Nat) (s : State) :
    (s.countReading mv).notices = s.notices := rfl
@[simp] theorem State.countReading_link (mv : Nat) (s : State) :
    (s.countReading mv).link = s.link := rfl
@[simp] theorem State.countReading_outputs (mv : Nat) (s : State) :
    (s.countReading mv).outputs = s.outputs := rfl
@[simp] theorem State.countReading_partTime (mv : Nat) (s : State) :
    (s.countReading mv).partTime = s.partTime := rfl
@[simp] theorem State.countReading_inReset (mv : Nat) (s : State) :
    (s.countReading mv).inReset = s.inReset := rfl
@[simp] theorem State.countReading_freeReadings (mv : Nat) (s : State) :
    (s.countReading mv).freeReadings = if levelOpen mv then s.freeReadings + 1 else s.freeReadings := rfl
@[simp] theorem State.countReading_pending (mv : Nat) (s : State) :
    (s.countReading mv).pending = s.pending := rfl

/-! ### `State.setGroup` -/
@[simp] theorem State.setGroup_config (i : Slot) (g : List Byte) (s : State) :
    (s.setGroup i g).config = s.config := rfl
@[simp] theorem State.setGroup_slots (i : Slot) (g : List Byte) (s : State) :
    (s.setGroup i g).slots = s.slots.set i { s.slot i with link := { (s.slot i).link with group := g } } := rfl
@[simp] theorem State.setGroup_extLines (i : Slot) (g : List Byte) (s : State) :
    (s.setGroup i g).extLines = s.extLines := rfl
@[simp] theorem State.setGroup_windows (i : Slot) (g : List Byte) (s : State) :
    (s.setGroup i g).windows = s.windows := rfl
@[simp] theorem State.setGroup_plans (i : Slot) (g : List Byte) (s : State) :
    (s.setGroup i g).plans = s.plans := rfl
@[simp] theorem State.setGroup_committed (i : Slot) (g : List Byte) (s : State) :
    (s.setGroup i g).committed = s.committed := rfl
@[simp] theorem State.setGroup_sync (i : Slot) (g : List Byte) (s : State) :
    (s.setGroup i g).sync = s.sync := rfl
@[simp] theorem State.setGroup_beatAt (i : Slot) (g : List Byte) (s : State) :
    (s.setGroup i g).beatAt = s.beatAt := rfl
@[simp] theorem State.setGroup_drive (i : Slot) (g : List Byte) (s : State) :
    (s.setGroup i g).drive = s.drive := rfl
@[simp] theorem State.setGroup_episode (i : Slot) (g : List Byte) (s : State) :
    (s.setGroup i g).episode = s.episode := rfl
@[simp] theorem State.setGroup_speed (i : Slot) (g : List Byte) (s : State) :
    (s.setGroup i g).speed = s.speed := rfl
@[simp] theorem State.setGroup_mod (i : Slot) (g : List Byte) (s : State) :
    (s.setGroup i g).mod = s.mod := rfl
@[simp] theorem State.setGroup_notices (i : Slot) (g : List Byte) (s : State) :
    (s.setGroup i g).notices = s.notices := rfl
@[simp] theorem State.setGroup_link (i : Slot) (g : List Byte) (s : State) :
    (s.setGroup i g).link = s.link := rfl
@[simp] theorem State.setGroup_outputs (i : Slot) (g : List Byte) (s : State) :
    (s.setGroup i g).outputs = s.outputs := rfl
@[simp] theorem State.setGroup_partTime (i : Slot) (g : List Byte) (s : State) :
    (s.setGroup i g).partTime = s.partTime := rfl
@[simp] theorem State.setGroup_inReset (i : Slot) (g : List Byte) (s : State) :
    (s.setGroup i g).inReset = s.inReset := rfl
@[simp] theorem State.setGroup_freeReadings (i : Slot) (g : List Byte) (s : State) :
    (s.setGroup i g).freeReadings = s.freeReadings := rfl
@[simp] theorem State.setGroup_pending (i : Slot) (g : List Byte) (s : State) :
    (s.setGroup i g).pending = s.pending := rfl

/-! ### `State.pushReply` -/
@[simp] theorem State.pushReply_config (r : Request) (a : Answer) (s : State) :
    (s.pushReply r a).config = s.config := rfl
@[simp] theorem State.pushReply_slots (r : Request) (a : Answer) (s : State) :
    (s.pushReply r a).slots = s.slots := rfl
@[simp] theorem State.pushReply_extLines (r : Request) (a : Answer) (s : State) :
    (s.pushReply r a).extLines = s.extLines := rfl
@[simp] theorem State.pushReply_windows (r : Request) (a : Answer) (s : State) :
    (s.pushReply r a).windows = s.windows := rfl
@[simp] theorem State.pushReply_plans (r : Request) (a : Answer) (s : State) :
    (s.pushReply r a).plans = s.plans := rfl
@[simp] theorem State.pushReply_committed (r : Request) (a : Answer) (s : State) :
    (s.pushReply r a).committed = s.committed := rfl
@[simp] theorem State.pushReply_sync (r : Request) (a : Answer) (s : State) :
    (s.pushReply r a).sync = s.sync := rfl
@[simp] theorem State.pushReply_beatAt (r : Request) (a : Answer) (s : State) :
    (s.pushReply r a).beatAt = s.beatAt := rfl
@[simp] theorem State.pushReply_drive (r : Request) (a : Answer) (s : State) :
    (s.pushReply r a).drive = s.drive := rfl
@[simp] theorem State.pushReply_episode (r : Request) (a : Answer) (s : State) :
    (s.pushReply r a).episode = s.episode := rfl
@[simp] theorem State.pushReply_speed (r : Request) (a : Answer) (s : State) :
    (s.pushReply r a).speed = s.speed := rfl
@[simp] theorem State.pushReply_mod (r : Request) (a : Answer) (s : State) :
    (s.pushReply r a).mod = s.mod := rfl
@[simp] theorem State.pushReply_notices (r : Request) (a : Answer) (s : State) :
    (s.pushReply r a).notices = s.notices := rfl
@[simp] theorem State.pushReply_link (r : Request) (a : Answer) (s : State) :
    (s.pushReply r a).link = { s.link with
      replies := s.link.replies ++ [{ kind := r.kind, tag := r.tag, answer := a }] } := rfl
@[simp] theorem State.pushReply_outputs (r : Request) (a : Answer) (s : State) :
    (s.pushReply r a).outputs = s.outputs := rfl
@[simp] theorem State.pushReply_partTime (r : Request) (a : Answer) (s : State) :
    (s.pushReply r a).partTime = s.partTime := rfl
@[simp] theorem State.pushReply_inReset (r : Request) (a : Answer) (s : State) :
    (s.pushReply r a).inReset = s.inReset := rfl
@[simp] theorem State.pushReply_freeReadings (r : Request) (a : Answer) (s : State) :
    (s.pushReply r a).freeReadings = s.freeReadings := rfl
@[simp] theorem State.pushReply_pending (r : Request) (a : Answer) (s : State) :
    (s.pushReply r a).pending = s.pending := rfl

/-! ### `State.setRequests` -/
@[simp] theorem State.setRequests_config (q : List Request) (s : State) :
    (s.setRequests q).config = s.config := rfl
@[simp] theorem State.setRequests_slots (q : List Request) (s : State) :
    (s.setRequests q).slots = s.slots := rfl
@[simp] theorem State.setRequests_extLines (q : List Request) (s : State) :
    (s.setRequests q).extLines = s.extLines := rfl
@[simp] theorem State.setRequests_windows (q : List Request) (s : State) :
    (s.setRequests q).windows = s.windows := rfl
@[simp] theorem State.setRequests_plans (q : List Request) (s : State) :
    (s.setRequests q).plans = s.plans := rfl
@[simp] theorem State.setRequests_committed (q : List Request) (s : State) :
    (s.setRequests q).committed = s.committed := rfl
@[simp] theorem State.setRequests_sync (q : List Request) (s : State) :
    (s.setRequests q).sync = s.sync := rfl
@[simp] theorem State.setRequests_beatAt (q : List Request) (s : State) :
    (s.setRequests q).beatAt = s.beatAt := rfl
@[simp] theorem State.setRequests_drive (q : List Request) (s : State) :
    (s.setRequests q).drive = s.drive := rfl
@[simp] theorem State.setRequests_episode (q : List Request) (s : State) :
    (s.setRequests q).episode = s.episode := rfl
@[simp] theorem State.setRequests_speed (q : List Request) (s : State) :
    (s.setRequests q).speed = s.speed := rfl
@[simp] theorem State.setRequests_mod (q : List Request) (s : State) :
    (s.setRequests q).mod = s.mod := rfl
@[simp] theorem State.setRequests_notices (q : List Request) (s : State) :
    (s.setRequests q).notices = s.notices := rfl
@[simp] theorem State.setRequests_link (q : List Request) (s : State) :
    (s.setRequests q).link = { s.link with requests := q } := rfl
@[simp] theorem State.setRequests_outputs (q : List Request) (s : State) :
    (s.setRequests q).outputs = s.outputs := rfl
@[simp] theorem State.setRequests_partTime (q : List Request) (s : State) :
    (s.setRequests q).partTime = s.partTime := rfl
@[simp] theorem State.setRequests_inReset (q : List Request) (s : State) :
    (s.setRequests q).inReset = s.inReset := rfl
@[simp] theorem State.setRequests_freeReadings (q : List Request) (s : State) :
    (s.setRequests q).freeReadings = s.freeReadings := rfl
@[simp] theorem State.setRequests_pending (q : List Request) (s : State) :
    (s.setRequests q).pending = s.pending := rfl

/-! ### `State.countDiscard` -/
@[simp] theorem State.countDiscard_config (s : State) : s.countDiscard.config = s.config := rfl
@[simp] theorem State.countDiscard_slots (s : State) : s.countDiscard.slots = s.slots := rfl
@[simp] theorem State.countDiscard_extLines (s : State) :
    s.countDiscard.extLines = s.extLines := rfl
@[simp] theorem State.countDiscard_windows (s : State) : s.countDiscard.windows = s.windows := rfl
@[simp] theorem State.countDiscard_plans (s : State) : s.countDiscard.plans = s.plans := rfl
@[simp] theorem State.countDiscard_committed (s : State) :
    s.countDiscard.committed = s.committed := rfl
@[simp] theorem State.countDiscard_sync (s : State) : s.countDiscard.sync = s.sync := rfl
@[simp] theorem State.countDiscard_beatAt (s : State) : s.countDiscard.beatAt = s.beatAt := rfl
@[simp] theorem State.countDiscard_drive (s : State) : s.countDiscard.drive = s.drive := rfl
@[simp] theorem State.countDiscard_episode (s : State) : s.countDiscard.episode = s.episode := rfl
@[simp] theorem State.countDiscard_speed (s : State) : s.countDiscard.speed = s.speed := rfl
@[simp] theorem State.countDiscard_mod (s : State) : s.countDiscard.mod = s.mod := rfl
@[simp] theorem State.countDiscard_notices (s : State) : s.countDiscard.notices = s.notices := rfl
@[simp] theorem State.countDiscard_link (s : State) :
    s.countDiscard.link = { s.link with discarded := bump 255 s.link.discarded } := rfl
@[simp] theorem State.countDiscard_outputs (s : State) : s.countDiscard.outputs = s.outputs := rfl
@[simp] theorem State.countDiscard_partTime (s : State) :
    s.countDiscard.partTime = s.partTime := rfl
@[simp] theorem State.countDiscard_inReset (s : State) : s.countDiscard.inReset = s.inReset := rfl
@[simp] theorem State.countDiscard_freeReadings (s : State) :
    s.countDiscard.freeReadings = s.freeReadings := rfl
@[simp] theorem State.countDiscard_pending (s : State) : s.countDiscard.pending = s.pending := rfl

/-! ### `State.setRx` -/
@[simp] theorem State.setRx_config (x : Receiver) (s : State) : (s.setRx x).config = s.config := rfl
@[simp] theorem State.setRx_slots (x : Receiver) (s : State) : (s.setRx x).slots = s.slots := rfl
@[simp] theorem State.setRx_extLines (x : Receiver) (s : State) :
    (s.setRx x).extLines = s.extLines := rfl
@[simp] theorem State.setRx_windows (x : Receiver) (s : State) :
    (s.setRx x).windows = s.windows := rfl
@[simp] theorem State.setRx_plans (x : Receiver) (s : State) : (s.setRx x).plans = s.plans := rfl
@[simp] theorem State.setRx_committed (x : Receiver) (s : State) :
    (s.setRx x).committed = s.committed := rfl
@[simp] theorem State.setRx_sync (x : Receiver) (s : State) : (s.setRx x).sync = s.sync := rfl
@[simp] theorem State.setRx_beatAt (x : Receiver) (s : State) : (s.setRx x).beatAt = s.beatAt := rfl
@[simp] theorem State.setRx_drive (x : Receiver) (s : State) : (s.setRx x).drive = s.drive := rfl
@[simp] theorem State.setRx_episode (x : Receiver) (s : State) :
    (s.setRx x).episode = s.episode := rfl
@[simp] theorem State.setRx_speed (x : Receiver) (s : State) : (s.setRx x).speed = s.speed := rfl
@[simp] theorem State.setRx_mod (x : Receiver) (s : State) : (s.setRx x).mod = s.mod := rfl
@[simp] theorem State.setRx_notices (x : Receiver) (s : State) :
    (s.setRx x).notices = s.notices := rfl
@[simp] theorem State.setRx_link (x : Receiver) (s : State) :
    (s.setRx x).link = { s.link with rx := x } := rfl
@[simp] theorem State.setRx_outputs (x : Receiver) (s : State) :
    (s.setRx x).outputs = s.outputs := rfl
@[simp] theorem State.setRx_partTime (x : Receiver) (s : State) :
    (s.setRx x).partTime = s.partTime := rfl
@[simp] theorem State.setRx_inReset (x : Receiver) (s : State) :
    (s.setRx x).inReset = s.inReset := rfl
@[simp] theorem State.setRx_freeReadings (x : Receiver) (s : State) :
    (s.setRx x).freeReadings = s.freeReadings := rfl
@[simp] theorem State.setRx_pending (x : Receiver) (s : State) :
    (s.setRx x).pending = s.pending := rfl

/-! ### `State.abandonFrame` -/
@[simp] theorem State.abandonFrame_config (s : State) : s.abandonFrame.config = s.config := rfl
@[simp] theorem State.abandonFrame_slots (s : State) : s.abandonFrame.slots = s.slots := rfl
@[simp] theorem State.abandonFrame_extLines (s : State) :
    s.abandonFrame.extLines = s.extLines := rfl
@[simp] theorem State.abandonFrame_windows (s : State) : s.abandonFrame.windows = s.windows := rfl
@[simp] theorem State.abandonFrame_plans (s : State) : s.abandonFrame.plans = s.plans := rfl
@[simp] theorem State.abandonFrame_committed (s : State) :
    s.abandonFrame.committed = s.committed := rfl
@[simp] theorem State.abandonFrame_sync (s : State) : s.abandonFrame.sync = s.sync := rfl
@[simp] theorem State.abandonFrame_beatAt (s : State) : s.abandonFrame.beatAt = s.beatAt := rfl
@[simp] theorem State.abandonFrame_drive (s : State) : s.abandonFrame.drive = s.drive := rfl
@[simp] theorem State.abandonFrame_episode (s : State) : s.abandonFrame.episode = s.episode := rfl
@[simp] theorem State.abandonFrame_speed (s : State) : s.abandonFrame.speed = s.speed := rfl
@[simp] theorem State.abandonFrame_mod (s : State) : s.abandonFrame.mod = s.mod := rfl
@[simp] theorem State.abandonFrame_notices (s : State) : s.abandonFrame.notices = s.notices := rfl
@[simp] theorem State.abandonFrame_link (s : State) :
    s.abandonFrame.link = { s.link with rx := .hunting, discarded := bump 255 s.link.discarded } := rfl
@[simp] theorem State.abandonFrame_outputs (s : State) : s.abandonFrame.outputs = s.outputs := rfl
@[simp] theorem State.abandonFrame_partTime (s : State) :
    s.abandonFrame.partTime = s.partTime := rfl
@[simp] theorem State.abandonFrame_inReset (s : State) : s.abandonFrame.inReset = s.inReset := rfl
@[simp] theorem State.abandonFrame_freeReadings (s : State) :
    s.abandonFrame.freeReadings = s.freeReadings := rfl
@[simp] theorem State.abandonFrame_pending (s : State) : s.abandonFrame.pending = s.pending := rfl

end Sys2Proof.Machine
end

