-- ==== Sys2Proof/Laws/Ops.lean ====
section
/-! SUPPORT. What each shared operation of Machine/Ops.lean, Drive.lean and Episode.lean can do: the fields it
leaves alone, and what it makes of the others. -/

namespace Sys2Proof.Machine

/-- A slot's record after a slot is replaced. -/
theorem State.setSlot_slot (i j : Slot) (r : SlotRecord) (s : State) :
    (s.setSlot i r).slot j = if i = j then r else s.slot j := by
  simp only [State.slot, State.setSlot_slots]
  by_cases h : i = j
  · subst h; simp
  · have h' : i.val ≠ j.val := fun e => h (Fin.ext e)
    simp [h, h']

@[simp] theorem State.setSlot_slot_self (i : Slot) (r : SlotRecord) (s : State) :
    (s.setSlot i r).slot i = r := by simp [State.setSlot_slot]

/-- A line's record after a line is replaced. -/
theorem State.setLine_line (l m : ExtLine) (r : LineRecord) (s : State) :
    (s.setLine l r).line m = if l = m then r else s.line m := by
  simp only [State.line, State.setLine_extLines]
  by_cases h : l = m
  · subst h; simp
  · have h' : l.val ≠ m.val := fun e => h (Fin.ext e)
    simp [h, h']

@[simp] theorem State.mapSlots_slot (f : Slot → SlotRecord → SlotRecord) (i : Slot) (s : State) :
    (s.mapSlots f).slot i = f i (s.slot i) := by simp [State.slot]

/-- A slot's record depends on the slot table alone. -/
theorem State.slot_congr {s t : State} (h : t.slots = s.slots) (i : Slot) : t.slot i = s.slot i := by
  simp [State.slot, h]

@[simp] theorem State.reach_frame (t : PartTime) (n : Nat) (s : State) :
    (s.reach t n).config = s.config ∧ (s.reach t n).slots = s.slots ∧
    (s.reach t n).extLines = s.extLines ∧ (s.reach t n).windows = s.windows ∧
    (s.reach t n).plans = s.plans ∧ (s.reach t n).committed = s.committed ∧
    (s.reach t n).sync = s.sync ∧ (s.reach t n).beatAt = s.beatAt ∧ (s.reach t n).drive = s.drive ∧
    (s.reach t n).episode = s.episode ∧ (s.reach t n).speed = s.speed ∧ (s.reach t n).mod = s.mod ∧
    (s.reach t n).notices = s.notices ∧ (s.reach t n).link = s.link ∧
    (s.reach t n).outputs = s.outputs ∧ (s.reach t n).inReset = s.inReset ∧
    (s.reach t n).freeReadings = s.freeReadings ∧ (s.reach t n).pending = s.pending := by
  unfold State.reach; split <;> simp

@[simp] theorem State.offer_frame (b : NoticeBody) (s : State) :
    (s.offer b).config = s.config ∧ (s.offer b).slots = s.slots ∧
    (s.offer b).extLines = s.extLines ∧ (s.offer b).windows = s.windows ∧
    (s.offer b).plans = s.plans ∧ (s.offer b).committed = s.committed ∧ (s.offer b).sync = s.sync ∧
    (s.offer b).beatAt = s.beatAt ∧ (s.offer b).drive = s.drive ∧ (s.offer b).episode = s.episode ∧
    (s.offer b).speed = s.speed ∧ (s.offer b).mod = s.mod ∧ (s.offer b).link = s.link ∧
    (s.offer b).partTime = s.partTime ∧ (s.offer b).inReset = s.inReset ∧
    (s.offer b).freeReadings = s.freeReadings ∧ (s.offer b).pending = s.pending := by
  unfold State.offer; (repeat' split) <;> simp

/-- What an offered notice does to the queue (R160). -/
theorem State.offer_notices (b : NoticeBody) (s : State) :
    (s.offer b).notices =
      if s.notices.enabled b then
        if s.notices.items.length < 16 then
          { s.notices with items := s.notices.items ++ [{ time := s.partTime, body := b }] }
        else { s.notices with overflow := bump 255 s.notices.overflow }
      else s.notices := by
  unfold State.offer; (repeat' split) <;> simp_all

/-- An offered notice changes no output but ATTN. -/
@[simp] theorem State.offer_lines (b : NoticeBody) (s : State) :
    (s.offer b).outputs.brkDemand = s.outputs.brkDemand ∧
    (s.offer b).outputs.rideActive = s.outputs.rideActive := by
  unfold State.offer; (repeat' split) <;> simp

@[simp] theorem State.offer_slot (b : NoticeBody) (i : Slot) (s : State) :
    (s.offer b).slot i = s.slot i := State.slot_congr (by simp) i

@[simp] theorem State.followEntry_frame (i : Slot) (s : State) :
    (s.followEntry i).config = s.config ∧ (s.followEntry i).slots = s.slots ∧
    (s.followEntry i).extLines = s.extLines ∧ (s.followEntry i).windows = s.windows ∧
    (s.followEntry i).plans = s.plans ∧ (s.followEntry i).committed = s.committed ∧
    (s.followEntry i).sync = s.sync ∧ (s.followEntry i).beatAt = s.beatAt ∧
    (s.followEntry i).drive = s.drive ∧ (s.followEntry i).speed = s.speed ∧
    (s.followEntry i).mod = s.mod ∧ (s.followEntry i).notices = s.notices ∧
    (s.followEntry i).link = s.link ∧ (s.followEntry i).outputs = s.outputs ∧
    (s.followEntry i).partTime = s.partTime ∧ (s.followEntry i).inReset = s.inReset ∧
    (s.followEntry i).freeReadings = s.freeReadings ∧ (s.followEntry i).pending = s.pending := by
  unfold State.followEntry; split <;> simp

@[simp] theorem State.followEntry_slot (i j : Slot) (s : State) :
    (s.followEntry i).slot j = s.slot j := State.slot_congr (by simp) j

/-- A followed entry changes the open record's involved list alone. -/
theorem State.followEntry_episode (i : Slot) (s : State) :
    (s.followEntry i).episode = { s.episode with
      current := s.episode.current.map fun e =>
        { e with involved := e.involved.map fun v => v.follow i (s.slot i) } } := by
  unfold State.followEntry
  split
  · next h => rw [h, Option.map_none, ← h]
  · next e h => simp [h]

@[simp] theorem State.enterState_frame (i : Slot) (x : SlotState) (c : Code) (s : State) :
    (s.enterState i x c).config = s.config ∧ (s.enterState i x c).extLines = s.extLines ∧
    (s.enterState i x c).windows = s.windows ∧ (s.enterState i x c).plans = s.plans ∧
    (s.enterState i x c).committed = s.committed ∧ (s.enterState i x c).sync = s.sync ∧
    (s.enterState i x c).beatAt = s.beatAt ∧ (s.enterState i x c).drive = s.drive ∧
    (s.enterState i x c).speed = s.speed ∧ (s.enterState i x c).mod = s.mod ∧
    (s.enterState i x c).link = s.link ∧ (s.enterState i x c).partTime = s.partTime ∧
    (s.enterState i x c).inReset = s.inReset ∧ (s.enterState i x c).freeReadings = s.freeReadings ∧
    (s.enterState i x c).pending = s.pending := by
  unfold State.enterState; simp

/-- The slot records after a slot's change of state. -/
theorem State.enterState_slot (i j : Slot) (x : SlotState) (c : Code) (s : State) :
    (s.enterState i x c).slot j =
      if i = j then (s.slot i).entered x s.partTime s.config.bypassTimeout else s.slot j := by
  simp [State.enterState, State.setSlot_slot]

@[simp] theorem State.enterState_lines (i : Slot) (x : SlotState) (c : Code) (s : State) :
    (s.enterState i x c).outputs.brkDemand = s.outputs.brkDemand ∧
    (s.enterState i x c).outputs.rideActive = s.outputs.rideActive := by
  simp [State.enterState]

/-- A slot's change of state changes the open record's involved list alone in the episode controller. -/
theorem State.enterState_episode (i : Slot) (x : SlotState) (c : Code) (s : State) :
    (s.enterState i x c).episode = { s.episode with
      current := s.episode.current.map fun e =>
        { e with
          involved := e.involved.map fun v =>
            v.follow i ((s.slot i).entered x s.partTime s.config.bypassTimeout) } } := by
  simp [State.enterState, State.followEntry_episode]

/-- A slot's change of state opens and closes no episode. -/
@[simp] theorem State.enterState_open (i : Slot) (x : SlotState) (c : Code) (s : State) :
    (s.enterState i x c).episode.current.isSome = s.episode.current.isSome ∧
    (s.enterState i x c).phase = s.phase := by
  simp [State.enterState_episode, State.phase, Function.comp_def]

/-- Whatever each of an operation's steps keeps, the operation on every slot keeps. -/
theorem State.eachSlot_keeps {f : Slot → State → State} {P : State → Prop}
    (h : ∀ i t, P t → P (f i t)) {s : State} (hs : P s) : P (s.eachSlot f) := by
  have : ∀ (l : List Slot) (t : State), P t → P (l.foldl (fun t i => f i t) t) := by
    intro l
    induction l with
    | nil => intro t ht; exact ht
    | cons i l ih => intro t ht; exact ih _ (h i t ht)
  exact this _ s hs

/-- A reading that each of an operation's steps leaves alone, the operation on every slot leaves alone. -/
theorem State.eachSlot_reads {α : Type} {f : Slot → State → State} (g : State → α)
    (h : ∀ i t, g (f i t) = g t) (s : State) : g (s.eachSlot f) = g s :=
  State.eachSlot_keeps (P := fun t => g t = g s) (fun i t ht => (h i t).trans ht) rfl

@[simp] theorem State.startFaulted_frame (i : Slot) (s : State) :
    (s.startFaulted i).config = s.config ∧ (s.startFaulted i).extLines = s.extLines ∧
    (s.startFaulted i).windows = s.windows ∧ (s.startFaulted i).plans = s.plans ∧
    (s.startFaulted i).committed = s.committed ∧ (s.startFaulted i).sync = s.sync ∧
    (s.startFaulted i).beatAt = s.beatAt ∧ (s.startFaulted i).drive = s.drive ∧
    (s.startFaulted i).speed = s.speed ∧ (s.startFaulted i).mod = s.mod ∧
    (s.startFaulted i).link = s.link ∧ (s.startFaulted i).partTime = s.partTime ∧
    (s.startFaulted i).inReset = s.inReset ∧ (s.startFaulted i).freeReadings = s.freeReadings ∧
    (s.startFaulted i).pending = s.pending := by
  unfold State.startFaulted; simp

@[simp] theorem State.startFaulted_lines (i : Slot) (s : State) :
    (s.startFaulted i).outputs.brkDemand = s.outputs.brkDemand ∧
    (s.startFaulted i).outputs.rideActive = s.outputs.rideActive ∧
    (s.startFaulted i).episode.current.isSome = s.episode.current.isSome ∧
    (s.startFaulted i).phase = s.phase := by
  simp [State.startFaulted]

@[simp] theorem State.startAllFaulted_frame (p : Slot → Bool) (s : State) :
    (s.startAllFaulted p).config = s.config ∧ (s.startAllFaulted p).extLines = s.extLines ∧
    (s.startAllFaulted p).windows = s.windows ∧ (s.startAllFaulted p).plans = s.plans ∧
    (s.startAllFaulted p).committed = s.committed ∧ (s.startAllFaulted p).sync = s.sync ∧
    (s.startAllFaulted p).beatAt = s.beatAt ∧ (s.startAllFaulted p).drive = s.drive ∧
    (s.startAllFaulted p).speed = s.speed ∧ (s.startAllFaulted p).mod = s.mod ∧
    (s.startAllFaulted p).link = s.link ∧ (s.startAllFaulted p).partTime = s.partTime ∧
    (s.startAllFaulted p).inReset = s.inReset ∧
    (s.startAllFaulted p).freeReadings = s.freeReadings ∧
    (s.startAllFaulted p).pending = s.pending := by
  unfold State.startAllFaulted
  refine State.eachSlot_keeps (P := fun t => t.config = s.config ∧ t.extLines = s.extLines ∧
    t.windows = s.windows ∧ t.plans = s.plans ∧
    t.committed = s.committed ∧ t.sync = s.sync ∧
    t.beatAt = s.beatAt ∧ t.drive = s.drive ∧
    t.speed = s.speed ∧ t.mod = s.mod ∧
    t.link = s.link ∧ t.partTime = s.partTime ∧
    t.inReset = s.inReset ∧
    t.freeReadings = s.freeReadings ∧
    t.pending = s.pending) (fun i t ht => ?_) (by simp)
  split
  · simpa using ht
  · exact ht


@[simp] theorem State.startAllFaulted_lines (p : Slot → Bool) (s : State) :
    (s.startAllFaulted p).outputs.brkDemand = s.outputs.brkDemand ∧
    (s.startAllFaulted p).outputs.rideActive = s.outputs.rideActive ∧
    (s.startAllFaulted p).episode.current.isSome = s.episode.current.isSome ∧
    (s.startAllFaulted p).phase = s.phase := by
  unfold State.startAllFaulted
  refine ⟨?_, ?_, ?_, ?_⟩
  · exact State.eachSlot_reads (fun t => t.outputs.brkDemand) (fun i t => by split <;> simp) s
  · exact State.eachSlot_reads (fun t => t.outputs.rideActive) (fun i t => by split <;> simp) s
  · exact State.eachSlot_reads (fun t => t.episode.current.isSome) (fun i t => by split <;> simp) s
  · exact State.eachSlot_reads State.phase (fun i t => by split <;> simp) s

@[simp] theorem State.writeOffsets_frame (s : State) :
    s.writeOffsets.config = s.config ∧ s.writeOffsets.extLines = s.extLines ∧
    s.writeOffsets.windows = s.windows ∧ s.writeOffsets.plans = s.plans ∧
    s.writeOffsets.committed = s.committed ∧ s.writeOffsets.sync = s.sync ∧
    s.writeOffsets.beatAt = s.beatAt ∧ s.writeOffsets.drive = s.drive ∧
    s.writeOffsets.episode = s.episode ∧ s.writeOffsets.speed = s.speed ∧
    s.writeOffsets.mod = s.mod ∧ s.writeOffsets.notices = s.notices ∧
    s.writeOffsets.link = s.link ∧ s.writeOffsets.outputs = s.outputs ∧
    s.writeOffsets.partTime = s.partTime ∧ s.writeOffsets.inReset = s.inReset ∧
    s.writeOffsets.freeReadings = s.freeReadings ∧ s.writeOffsets.pending = s.pending := by
  unfold State.writeOffsets; simp

@[simp] theorem State.commit_frame (s : State) :
    s.commit.config = s.config ∧ s.commit.extLines = s.extLines ∧ s.commit.windows = s.windows ∧
    s.commit.plans = s.plans ∧ s.commit.beatAt = s.beatAt ∧ s.commit.drive = s.drive ∧
    s.commit.speed = s.speed ∧ s.commit.mod = s.mod ∧ s.commit.link = s.link ∧
    s.commit.partTime = s.partTime ∧ s.commit.inReset = s.inReset ∧
    s.commit.freeReadings = s.freeReadings ∧ s.commit.pending = s.pending := by
  unfold State.commit
  simp only [State.writeOffsets_frame]
  refine State.eachSlot_keeps (P := fun t => t.config = s.config ∧ t.extLines = s.extLines ∧ t.windows = s.windows ∧
    t.plans = s.plans ∧ t.beatAt = s.beatAt ∧ t.drive = s.drive ∧
    t.speed = s.speed ∧ t.mod = s.mod ∧ t.link = s.link ∧
    t.partTime = s.partTime ∧ t.inReset = s.inReset ∧
    t.freeReadings = s.freeReadings ∧ t.pending = s.pending) (fun i t ht => ?_) (by simp)
  unfold settleCandidate
  split
  · simpa using ht
  · exact ht


@[simp] theorem State.halt_frame (c : Code) (s : State) :
    (s.halt c).config = s.config ∧ (s.halt c).slots = s.slots ∧ (s.halt c).extLines = s.extLines ∧
    (s.halt c).windows = s.windows ∧ (s.halt c).plans = s.plans ∧
    (s.halt c).committed = s.committed ∧ (s.halt c).sync = s.sync ∧ (s.halt c).beatAt = s.beatAt ∧
    (s.halt c).episode = s.episode ∧ (s.halt c).speed = s.speed ∧ (s.halt c).link = s.link ∧
    (s.halt c).partTime = s.partTime ∧ (s.halt c).inReset = s.inReset ∧
    (s.halt c).freeReadings = s.freeReadings ∧ (s.halt c).pending = s.pending := by
  unfold State.halt; split <;> simp

@[simp] theorem State.closeRecord_frame (o : EpisodeOutcome) (s : State) :
    (s.closeRecord o).config = s.config ∧ (s.closeRecord o).slots = s.slots ∧
    (s.closeRecord o).extLines = s.extLines ∧ (s.closeRecord o).windows = s.windows ∧
    (s.closeRecord o).plans = s.plans ∧ (s.closeRecord o).committed = s.committed ∧
    (s.closeRecord o).sync = s.sync ∧ (s.closeRecord o).beatAt = s.beatAt ∧
    (s.closeRecord o).drive = s.drive ∧ (s.closeRecord o).speed = s.speed ∧
    (s.closeRecord o).mod = s.mod ∧ (s.closeRecord o).notices = s.notices ∧
    (s.closeRecord o).link = s.link ∧ (s.closeRecord o).outputs = s.outputs ∧
    (s.closeRecord o).partTime = s.partTime ∧ (s.closeRecord o).inReset = s.inReset ∧
    (s.closeRecord o).freeReadings = s.freeReadings ∧ (s.closeRecord o).pending = s.pending := by
  unfold State.closeRecord; split <;> simp

@[simp] theorem State.failEpisode_frame (k : FailureCause) (c : Code) (s : State) :
    (s.failEpisode k c).config = s.config ∧ (s.failEpisode k c).extLines = s.extLines ∧
    (s.failEpisode k c).windows = s.windows ∧ (s.failEpisode k c).plans = s.plans ∧
    (s.failEpisode k c).committed = s.committed ∧ (s.failEpisode k c).sync = s.sync ∧
    (s.failEpisode k c).beatAt = s.beatAt ∧ (s.failEpisode k c).speed = s.speed ∧
    (s.failEpisode k c).link = s.link ∧ (s.failEpisode k c).partTime = s.partTime ∧
    (s.failEpisode k c).inReset = s.inReset ∧ (s.failEpisode k c).freeReadings = s.freeReadings ∧
    (s.failEpisode k c).pending = s.pending := by
  unfold State.failEpisode; split <;> simp

@[simp] theorem State.enterPlan_frame (s : State) :
    s.enterPlan.config = s.config ∧ s.enterPlan.extLines = s.extLines ∧
    s.enterPlan.windows = s.windows ∧ s.enterPlan.plans = s.plans ∧ s.enterPlan.beatAt = s.beatAt ∧
    s.enterPlan.speed = s.speed ∧ s.enterPlan.link = s.link ∧ s.enterPlan.partTime = s.partTime ∧
    s.enterPlan.inReset = s.inReset ∧ s.enterPlan.freeReadings = s.freeReadings ∧
    s.enterPlan.pending = s.pending := by
  unfold State.enterPlan; dsimp only; split <;> simp

@[simp] theorem State.checkBypass_frame (s : State) :
    s.checkBypass.config = s.config ∧ s.checkBypass.extLines = s.extLines ∧
    s.checkBypass.windows = s.windows ∧ s.checkBypass.plans = s.plans ∧
    s.checkBypass.beatAt = s.beatAt ∧ s.checkBypass.speed = s.speed ∧ s.checkBypass.link = s.link ∧
    s.checkBypass.partTime = s.partTime ∧ s.checkBypass.inReset = s.inReset ∧
    s.checkBypass.freeReadings = s.freeReadings ∧ s.checkBypass.pending = s.pending := by
  unfold State.checkBypass; (repeat' split) <;> simp

@[simp] theorem State.enterBypass_frame (s : State) :
    s.enterBypass.config = s.config ∧ s.enterBypass.extLines = s.extLines ∧
    s.enterBypass.windows = s.windows ∧ s.enterBypass.plans = s.plans ∧
    s.enterBypass.beatAt = s.beatAt ∧ s.enterBypass.speed = s.speed ∧ s.enterBypass.link = s.link ∧
    s.enterBypass.partTime = s.partTime ∧ s.enterBypass.inReset = s.inReset ∧
    s.enterBypass.freeReadings = s.freeReadings ∧ s.enterBypass.pending = s.pending := by
  unfold State.enterBypass; simp

@[simp] theorem State.enterIsolate_frame (s : State) :
    s.enterIsolate.config = s.config ∧ s.enterIsolate.extLines = s.extLines ∧
    s.enterIsolate.windows = s.windows ∧ s.enterIsolate.plans = s.plans ∧
    s.enterIsolate.beatAt = s.beatAt ∧ s.enterIsolate.speed = s.speed ∧
    s.enterIsolate.link = s.link ∧ s.enterIsolate.partTime = s.partTime ∧
    s.enterIsolate.inReset = s.inReset ∧ s.enterIsolate.freeReadings = s.freeReadings ∧
    s.enterIsolate.pending = s.pending := by
  unfold State.enterIsolate; dsimp only; split <;> simp

@[simp] theorem State.openEpisode_frame (i : Slot) (c : Code) (k : Nat) (s : State) :
    (s.openEpisode i c k).config = s.config ∧ (s.openEpisode i c k).extLines = s.extLines ∧
    (s.openEpisode i c k).windows = s.windows ∧ (s.openEpisode i c k).plans = s.plans ∧
    (s.openEpisode i c k).beatAt = s.beatAt ∧ (s.openEpisode i c k).speed = s.speed ∧
    (s.openEpisode i c k).link = s.link ∧ (s.openEpisode i c k).partTime = s.partTime ∧
    (s.openEpisode i c k).inReset = s.inReset ∧
    (s.openEpisode i c k).freeReadings = s.freeReadings ∧
    (s.openEpisode i c k).pending = s.pending := by
  unfold State.openEpisode; simp

@[simp] theorem State.reisolate_frame (s : State) :
    s.reisolate.config = s.config ∧ s.reisolate.extLines = s.extLines ∧
    s.reisolate.windows = s.windows ∧ s.reisolate.plans = s.plans ∧ s.reisolate.beatAt = s.beatAt ∧
    s.reisolate.speed = s.speed ∧ s.reisolate.link = s.link ∧ s.reisolate.partTime = s.partTime ∧
    s.reisolate.inReset = s.inReset ∧ s.reisolate.freeReadings = s.freeReadings ∧
    s.reisolate.pending = s.pending := by
  unfold State.reisolate; dsimp only; split <;> simp

@[simp] theorem State.offerToEpisode_frame (i : Slot) (c : Code) (k : Nat) (s : State) :
    (s.offerToEpisode i c k).config = s.config ∧ (s.offerToEpisode i c k).extLines = s.extLines ∧
    (s.offerToEpisode i c k).windows = s.windows ∧ (s.offerToEpisode i c k).plans = s.plans ∧
    (s.offerToEpisode i c k).beatAt = s.beatAt ∧ (s.offerToEpisode i c k).speed = s.speed ∧
    (s.offerToEpisode i c k).link = s.link ∧ (s.offerToEpisode i c k).partTime = s.partTime ∧
    (s.offerToEpisode i c k).inReset = s.inReset ∧
    (s.offerToEpisode i c k).freeReadings = s.freeReadings ∧
    (s.offerToEpisode i c k).pending = s.pending := by
  unfold State.offerToEpisode; (repeat' split) <;> simp

@[simp] theorem State.rechargeCheck_frame (s : State) :
    s.rechargeCheck.config = s.config ∧ s.rechargeCheck.slots = s.slots ∧
    s.rechargeCheck.extLines = s.extLines ∧ s.rechargeCheck.windows = s.windows ∧
    s.rechargeCheck.plans = s.plans ∧ s.rechargeCheck.committed = s.committed ∧
    s.rechargeCheck.sync = s.sync ∧ s.rechargeCheck.beatAt = s.beatAt ∧
    s.rechargeCheck.drive = s.drive ∧ s.rechargeCheck.speed = s.speed ∧
    s.rechargeCheck.mod = s.mod ∧ s.rechargeCheck.notices = s.notices ∧
    s.rechargeCheck.link = s.link ∧ s.rechargeCheck.outputs = s.outputs ∧
    s.rechargeCheck.partTime = s.partTime ∧ s.rechargeCheck.inReset = s.inReset ∧
    s.rechargeCheck.freeReadings = s.freeReadings ∧ s.rechargeCheck.pending = s.pending := by
  unfold State.rechargeCheck; split <;> simp

@[simp] theorem State.capture_frame (r : SpeedResult) (s : State) :
    (s.capture r).config = s.config ∧ (s.capture r).slots = s.slots ∧
    (s.capture r).extLines = s.extLines ∧ (s.capture r).windows = s.windows ∧
    (s.capture r).plans = s.plans ∧ (s.capture r).committed = s.committed ∧
    (s.capture r).sync = s.sync ∧ (s.capture r).beatAt = s.beatAt ∧ (s.capture r).drive = s.drive ∧
    (s.capture r).speed = s.speed ∧ (s.capture r).notices = s.notices ∧
    (s.capture r).link = s.link ∧ (s.capture r).outputs = s.outputs ∧
    (s.capture r).partTime = s.partTime ∧ (s.capture r).inReset = s.inReset ∧
    (s.capture r).freeReadings = s.freeReadings ∧ (s.capture r).pending = s.pending := by
  unfold State.capture; simp

@[simp] theorem State.closeRestored_frame (r : Reference) (s : State) :
    (s.closeRestored r).config = s.config ∧ (s.closeRestored r).extLines = s.extLines ∧
    (s.closeRestored r).windows = s.windows ∧ (s.closeRestored r).plans = s.plans ∧
    (s.closeRestored r).committed = s.committed ∧ (s.closeRestored r).sync = s.sync ∧
    (s.closeRestored r).beatAt = s.beatAt ∧ (s.closeRestored r).speed = s.speed ∧
    (s.closeRestored r).link = s.link ∧ (s.closeRestored r).partTime = s.partTime ∧
    (s.closeRestored r).inReset = s.inReset ∧ (s.closeRestored r).freeReadings = s.freeReadings ∧
    (s.closeRestored r).pending = s.pending := by
  unfold State.closeRestored; split <;> simp

end Sys2Proof.Machine
end

