-- ==== Sys2Proof/Laws/Blocks.lean ====
section
/-! SUPPORT. The fields of the state that each block's operations leave alone: fault intake, bypass line unit, cell
link hub, speed unit, the episode's events and the accepted requests. -/

namespace Sys2Proof.Machine

@[simp] theorem State.setFacts_frame (x : FaultSource) (f : FaultFacts) (s : State) :
    (s.setFacts x f).config = s.config ∧ (s.setFacts x f).windows = s.windows ∧
    (s.setFacts x f).plans = s.plans ∧ (s.setFacts x f).committed = s.committed ∧
    (s.setFacts x f).sync = s.sync ∧ (s.setFacts x f).beatAt = s.beatAt ∧
    (s.setFacts x f).drive = s.drive ∧ (s.setFacts x f).episode = s.episode ∧
    (s.setFacts x f).speed = s.speed ∧ (s.setFacts x f).mod = s.mod ∧
    (s.setFacts x f).notices = s.notices ∧ (s.setFacts x f).link = s.link ∧
    (s.setFacts x f).outputs = s.outputs ∧ (s.setFacts x f).partTime = s.partTime ∧
    (s.setFacts x f).inReset = s.inReset ∧ (s.setFacts x f).freeReadings = s.freeReadings ∧
    (s.setFacts x f).pending = s.pending := by
  unfold State.setFacts; split <;> simp

@[simp] theorem State.noteAction_frame (x : FaultSource) (p : PendingFault) (s : State) :
    (s.noteAction x p).config = s.config ∧ (s.noteAction x p).windows = s.windows ∧
    (s.noteAction x p).plans = s.plans ∧ (s.noteAction x p).committed = s.committed ∧
    (s.noteAction x p).sync = s.sync ∧ (s.noteAction x p).beatAt = s.beatAt ∧
    (s.noteAction x p).drive = s.drive ∧ (s.noteAction x p).episode = s.episode ∧
    (s.noteAction x p).speed = s.speed ∧ (s.noteAction x p).mod = s.mod ∧
    (s.noteAction x p).link = s.link ∧ (s.noteAction x p).partTime = s.partTime ∧
    (s.noteAction x p).inReset = s.inReset ∧ (s.noteAction x p).freeReadings = s.freeReadings ∧
    (s.noteAction x p).pending = s.pending := by
  unfold State.noteAction; dsimp only; split <;> simp

@[simp] theorem State.rideAction_frame (i : Slot) (p : PendingFault) (s : State) :
    (s.rideAction i p).config = s.config ∧ (s.rideAction i p).extLines = s.extLines ∧
    (s.rideAction i p).windows = s.windows ∧ (s.rideAction i p).plans = s.plans ∧
    (s.rideAction i p).beatAt = s.beatAt ∧ (s.rideAction i p).speed = s.speed ∧
    (s.rideAction i p).link = s.link ∧ (s.rideAction i p).partTime = s.partTime ∧
    (s.rideAction i p).inReset = s.inReset ∧ (s.rideAction i p).freeReadings = s.freeReadings ∧
    (s.rideAction i p).pending = s.pending := by
  unfold State.rideAction; dsimp only; split <;> simp

@[simp] theorem State.haltAction_frame (c : Code) (s : State) :
    (s.haltAction c).config = s.config ∧ (s.haltAction c).extLines = s.extLines ∧
    (s.haltAction c).windows = s.windows ∧ (s.haltAction c).plans = s.plans ∧
    (s.haltAction c).committed = s.committed ∧ (s.haltAction c).sync = s.sync ∧
    (s.haltAction c).beatAt = s.beatAt ∧ (s.haltAction c).speed = s.speed ∧
    (s.haltAction c).link = s.link ∧ (s.haltAction c).partTime = s.partTime ∧
    (s.haltAction c).inReset = s.inReset ∧ (s.haltAction c).freeReadings = s.freeReadings ∧
    (s.haltAction c).pending = s.pending := by
  unfold State.haltAction; split <;> simp

@[simp] theorem State.act_frame (x : FaultSource) (p : PendingFault) (s : State) :
    (s.act x p).config = s.config ∧ (s.act x p).windows = s.windows ∧ (s.act x p).plans = s.plans ∧
    (s.act x p).beatAt = s.beatAt ∧ (s.act x p).speed = s.speed ∧ (s.act x p).link = s.link ∧
    (s.act x p).partTime = s.partTime ∧ (s.act x p).inReset = s.inReset ∧
    (s.act x p).freeReadings = s.freeReadings ∧ (s.act x p).pending = s.pending := by
  unfold State.act; split <;> simp

@[simp] theorem State.qualify_frame (x : FaultSource) (p : PendingFault) (s : State) :
    (s.qualify x p).config = s.config ∧ (s.qualify x p).windows = s.windows ∧
    (s.qualify x p).plans = s.plans ∧ (s.qualify x p).beatAt = s.beatAt ∧
    (s.qualify x p).speed = s.speed ∧ (s.qualify x p).link = s.link ∧
    (s.qualify x p).partTime = s.partTime ∧ (s.qualify x p).inReset = s.inReset ∧
    (s.qualify x p).freeReadings = s.freeReadings ∧ (s.qualify x p).pending = s.pending := by
  unfold State.qualify; simp

@[simp] theorem State.settlePending_frame (x : FaultSource) (p : PendingFault) (s : State) :
    (s.settlePending x p).config = s.config ∧ (s.settlePending x p).windows = s.windows ∧
    (s.settlePending x p).plans = s.plans ∧ (s.settlePending x p).beatAt = s.beatAt ∧
    (s.settlePending x p).speed = s.speed ∧ (s.settlePending x p).link = s.link ∧
    (s.settlePending x p).partTime = s.partTime ∧ (s.settlePending x p).inReset = s.inReset ∧
    (s.settlePending x p).freeReadings = s.freeReadings ∧
    (s.settlePending x p).pending = s.pending := by
  unfold State.settlePending; split <;> simp

@[simp] theorem State.firstSight_frame (x : FaultSource) (c : Code) (s : State) :
    (s.firstSight x c).config = s.config ∧ (s.firstSight x c).windows = s.windows ∧
    (s.firstSight x c).plans = s.plans ∧ (s.firstSight x c).beatAt = s.beatAt ∧
    (s.firstSight x c).speed = s.speed ∧ (s.firstSight x c).link = s.link ∧
    (s.firstSight x c).partTime = s.partTime ∧ (s.firstSight x c).inReset = s.inReset ∧
    (s.firstSight x c).freeReadings = s.freeReadings ∧ (s.firstSight x c).pending = s.pending := by
  unfold State.firstSight; dsimp only; split <;> simp

@[simp] theorem State.present_frame (x : FaultSource) (y : Presentation) (s : State) :
    (s.present x y).config = s.config ∧ (s.present x y).windows = s.windows ∧
    (s.present x y).plans = s.plans ∧ (s.present x y).beatAt = s.beatAt ∧
    (s.present x y).speed = s.speed ∧ (s.present x y).link = s.link ∧
    (s.present x y).partTime = s.partTime ∧ (s.present x y).inReset = s.inReset ∧
    (s.present x y).freeReadings = s.freeReadings ∧ (s.present x y).pending = s.pending := by
  unfold State.present; dsimp only; (repeat' split) <;> simp

@[simp] theorem State.extLineSample_frame (l : ExtLine) (mv : Nat) (s : State) :
    (s.extLineSample l mv).config = s.config ∧ (s.extLineSample l mv).windows = s.windows ∧
    (s.extLineSample l mv).plans = s.plans ∧ (s.extLineSample l mv).beatAt = s.beatAt ∧
    (s.extLineSample l mv).speed = s.speed ∧ (s.extLineSample l mv).link = s.link ∧
    (s.extLineSample l mv).inReset = s.inReset ∧ (s.extLineSample l mv).pending = s.pending := by
  unfold State.extLineSample; split <;> simp

@[simp] theorem State.presentBypassCode_frame (c : Code) (s : State) :
    (s.presentBypassCode c).config = s.config ∧ (s.presentBypassCode c).extLines = s.extLines ∧
    (s.presentBypassCode c).windows = s.windows ∧ (s.presentBypassCode c).plans = s.plans ∧
    (s.presentBypassCode c).committed = s.committed ∧ (s.presentBypassCode c).sync = s.sync ∧
    (s.presentBypassCode c).beatAt = s.beatAt ∧ (s.presentBypassCode c).speed = s.speed ∧
    (s.presentBypassCode c).link = s.link ∧ (s.presentBypassCode c).partTime = s.partTime ∧
    (s.presentBypassCode c).inReset = s.inReset ∧
    (s.presentBypassCode c).freeReadings = s.freeReadings ∧
    (s.presentBypassCode c).pending = s.pending := by
  unfold State.presentBypassCode; (repeat' split) <;> simp

@[simp] theorem State.stick_frame (i : Slot) (c : Code) (s : State) :
    (s.stick i c).config = s.config ∧ (s.stick i c).extLines = s.extLines ∧
    (s.stick i c).windows = s.windows ∧ (s.stick i c).plans = s.plans ∧
    (s.stick i c).committed = s.committed ∧ (s.stick i c).sync = s.sync ∧
    (s.stick i c).beatAt = s.beatAt ∧ (s.stick i c).speed = s.speed ∧ (s.stick i c).link = s.link ∧
    (s.stick i c).partTime = s.partTime ∧ (s.stick i c).inReset = s.inReset ∧
    (s.stick i c).freeReadings = s.freeReadings ∧ (s.stick i c).pending = s.pending := by
  unfold State.stick; simp

@[simp] theorem State.completeBypass_frame (i : Slot) (n : Nat) (s : State) :
    (s.completeBypass i n).config = s.config ∧ (s.completeBypass i n).extLines = s.extLines ∧
    (s.completeBypass i n).windows = s.windows ∧ (s.completeBypass i n).plans = s.plans ∧
    (s.completeBypass i n).beatAt = s.beatAt ∧ (s.completeBypass i n).speed = s.speed ∧
    (s.completeBypass i n).link = s.link ∧ (s.completeBypass i n).partTime = s.partTime ∧
    (s.completeBypass i n).inReset = s.inReset ∧
    (s.completeBypass i n).freeReadings = s.freeReadings ∧
    (s.completeBypass i n).pending = s.pending := by
  unfold State.completeBypass; dsimp only; split <;> simp

@[simp] theorem State.completeReturn_frame (i : Slot) (n : Nat) (s : State) :
    (s.completeReturn i n).config = s.config ∧ (s.completeReturn i n).extLines = s.extLines ∧
    (s.completeReturn i n).windows = s.windows ∧ (s.completeReturn i n).plans = s.plans ∧
    (s.completeReturn i n).committed = s.committed ∧ (s.completeReturn i n).sync = s.sync ∧
    (s.completeReturn i n).beatAt = s.beatAt ∧ (s.completeReturn i n).drive = s.drive ∧
    (s.completeReturn i n).speed = s.speed ∧ (s.completeReturn i n).mod = s.mod ∧
    (s.completeReturn i n).link = s.link ∧ (s.completeReturn i n).partTime = s.partTime ∧
    (s.completeReturn i n).inReset = s.inReset ∧
    (s.completeReturn i n).freeReadings = s.freeReadings ∧
    (s.completeReturn i n).pending = s.pending := by
  unfold State.completeReturn; simp

@[simp] theorem State.pulseGoesOn_frame (i : Slot) (s : State) :
    (s.pulseGoesOn i).config = s.config ∧ (s.pulseGoesOn i).extLines = s.extLines ∧
    (s.pulseGoesOn i).windows = s.windows ∧ (s.pulseGoesOn i).plans = s.plans ∧
    (s.pulseGoesOn i).committed = s.committed ∧ (s.pulseGoesOn i).sync = s.sync ∧
    (s.pulseGoesOn i).beatAt = s.beatAt ∧ (s.pulseGoesOn i).drive = s.drive ∧
    (s.pulseGoesOn i).episode = s.episode ∧ (s.pulseGoesOn i).speed = s.speed ∧
    (s.pulseGoesOn i).mod = s.mod ∧ (s.pulseGoesOn i).notices = s.notices ∧
    (s.pulseGoesOn i).link = s.link ∧ (s.pulseGoesOn i).outputs = s.outputs ∧
    (s.pulseGoesOn i).partTime = s.partTime ∧ (s.pulseGoesOn i).inReset = s.inReset ∧
    (s.pulseGoesOn i).freeReadings = s.freeReadings ∧ (s.pulseGoesOn i).pending = s.pending := by
  unfold State.pulseGoesOn; simp

@[simp] theorem State.feedbackEffect_frame (i : Slot) (b : Contactor) (s : State) :
    (s.feedbackEffect i b).config = s.config ∧ (s.feedbackEffect i b).extLines = s.extLines ∧
    (s.feedbackEffect i b).windows = s.windows ∧ (s.feedbackEffect i b).plans = s.plans ∧
    (s.feedbackEffect i b).beatAt = s.beatAt ∧ (s.feedbackEffect i b).speed = s.speed ∧
    (s.feedbackEffect i b).link = s.link ∧ (s.feedbackEffect i b).partTime = s.partTime ∧
    (s.feedbackEffect i b).inReset = s.inReset ∧
    (s.feedbackEffect i b).freeReadings = s.freeReadings ∧
    (s.feedbackEffect i b).pending = s.pending := by
  unfold State.feedbackEffect; dsimp only; (repeat' split) <;> simp

@[simp] theorem State.feedbackSample_frame (i : Slot) (b : Bool) (s : State) :
    (s.feedbackSample i b).config = s.config ∧ (s.feedbackSample i b).extLines = s.extLines ∧
    (s.feedbackSample i b).windows = s.windows ∧ (s.feedbackSample i b).plans = s.plans ∧
    (s.feedbackSample i b).beatAt = s.beatAt ∧ (s.feedbackSample i b).speed = s.speed ∧
    (s.feedbackSample i b).link = s.link ∧ (s.feedbackSample i b).inReset = s.inReset ∧
    (s.feedbackSample i b).freeReadings = s.freeReadings ∧
    (s.feedbackSample i b).pending = s.pending := by
  unfold State.feedbackSample; simp

@[simp] theorem State.pulseTimeout_frame (w : SlotState) (i : Slot) (s : State) :
    (s.pulseTimeout w i).config = s.config ∧ (s.pulseTimeout w i).extLines = s.extLines ∧
    (s.pulseTimeout w i).windows = s.windows ∧ (s.pulseTimeout w i).plans = s.plans ∧
    (s.pulseTimeout w i).committed = s.committed ∧ (s.pulseTimeout w i).sync = s.sync ∧
    (s.pulseTimeout w i).beatAt = s.beatAt ∧ (s.pulseTimeout w i).speed = s.speed ∧
    (s.pulseTimeout w i).link = s.link ∧ (s.pulseTimeout w i).partTime = s.partTime ∧
    (s.pulseTimeout w i).inReset = s.inReset ∧ (s.pulseTimeout w i).freeReadings = s.freeReadings ∧
    (s.pulseTimeout w i).pending = s.pending := by
  unfold State.pulseTimeout; (repeat' split) <;> simp

@[simp] theorem State.advanceRamp_frame (s : State) :
    s.advanceRamp.config = s.config ∧ s.advanceRamp.slots = s.slots ∧
    s.advanceRamp.extLines = s.extLines ∧ s.advanceRamp.windows = s.windows ∧
    s.advanceRamp.plans = s.plans ∧ s.advanceRamp.committed = s.committed ∧
    s.advanceRamp.sync = s.sync ∧ s.advanceRamp.beatAt = s.beatAt ∧ s.advanceRamp.drive = s.drive ∧
    s.advanceRamp.episode = s.episode ∧ s.advanceRamp.speed = s.speed ∧
    s.advanceRamp.notices = s.notices ∧ s.advanceRamp.link = s.link ∧
    s.advanceRamp.outputs = s.outputs ∧ s.advanceRamp.partTime = s.partTime ∧
    s.advanceRamp.inReset = s.inReset ∧ s.advanceRamp.freeReadings = s.freeReadings ∧
    s.advanceRamp.pending = s.pending := by
  unfold State.advanceRamp; (repeat' split) <;> simp

@[simp] theorem State.beat_frame (s : State) :
    s.beat.config = s.config ∧ s.beat.extLines = s.extLines ∧ s.beat.windows = s.windows ∧
    s.beat.plans = s.plans ∧ s.beat.committed = s.committed ∧ s.beat.sync = s.sync ∧
    s.beat.drive = s.drive ∧ s.beat.episode = s.episode ∧ s.beat.speed = s.speed ∧
    s.beat.notices = s.notices ∧ s.beat.link = s.link ∧ s.beat.outputs = s.outputs ∧
    s.beat.inReset = s.inReset ∧ s.beat.freeReadings = s.freeReadings ∧
    s.beat.pending = s.pending := by
  unfold State.beat; simp

@[simp] theorem State.presentCell_frame (i : Slot) (y : Presentation) (s : State) :
    (s.presentCell i y).config = s.config ∧ (s.presentCell i y).windows = s.windows ∧
    (s.presentCell i y).plans = s.plans ∧ (s.presentCell i y).beatAt = s.beatAt ∧
    (s.presentCell i y).speed = s.speed ∧ (s.presentCell i y).link = s.link ∧
    (s.presentCell i y).partTime = s.partTime ∧ (s.presentCell i y).inReset = s.inReset ∧
    (s.presentCell i y).freeReadings = s.freeReadings ∧
    (s.presentCell i y).pending = s.pending := by
  unfold State.presentCell; split <;> simp

@[simp] theorem State.takeReport_frame (i : Slot) (r : CellReport) (s : State) :
    (s.takeReport i r).config = s.config ∧ (s.takeReport i r).windows = s.windows ∧
    (s.takeReport i r).plans = s.plans ∧ (s.takeReport i r).beatAt = s.beatAt ∧
    (s.takeReport i r).speed = s.speed ∧ (s.takeReport i r).link = s.link ∧
    (s.takeReport i r).partTime = s.partTime ∧ (s.takeReport i r).inReset = s.inReset ∧
    (s.takeReport i r).freeReadings = s.freeReadings ∧ (s.takeReport i r).pending = s.pending := by
  unfold State.takeReport; simp

@[simp] theorem State.judgeGroup_frame (i : Slot) (g : List Byte) (s : State) :
    (s.judgeGroup i g).config = s.config ∧ (s.judgeGroup i g).windows = s.windows ∧
    (s.judgeGroup i g).plans = s.plans ∧ (s.judgeGroup i g).beatAt = s.beatAt ∧
    (s.judgeGroup i g).speed = s.speed ∧ (s.judgeGroup i g).link = s.link ∧
    (s.judgeGroup i g).partTime = s.partTime ∧ (s.judgeGroup i g).inReset = s.inReset ∧
    (s.judgeGroup i g).freeReadings = s.freeReadings ∧ (s.judgeGroup i g).pending = s.pending := by
  unfold State.judgeGroup; split <;> simp

@[simp] theorem State.receiveChar_frame (i : Slot) (b : Byte) (s : State) :
    (s.receiveChar i b).config = s.config ∧ (s.receiveChar i b).windows = s.windows ∧
    (s.receiveChar i b).plans = s.plans ∧ (s.receiveChar i b).beatAt = s.beatAt ∧
    (s.receiveChar i b).speed = s.speed ∧ (s.receiveChar i b).link = s.link ∧
    (s.receiveChar i b).partTime = s.partTime ∧ (s.receiveChar i b).inReset = s.inReset ∧
    (s.receiveChar i b).freeReadings = s.freeReadings ∧
    (s.receiveChar i b).pending = s.pending := by
  unfold State.receiveChar; dsimp only; (repeat' split) <;> simp

/-- What every character received keeps, the characters received keep. -/
theorem State.receiveChars_keeps {P : State → Prop} {i : Slot} (h : ∀ b s, P s → P (s.receiveChar i b))
    {s : State} (hs : P s) (l : List Byte) : P (s.receiveChars i l) := by
  induction l generalizing s with
  | nil => exact hs
  | cons b l ih => exact ih (h b s hs)

@[simp] theorem State.receiveChars_frame (i : Slot) (l : List Byte) (s : State) :
    (s.receiveChars i l).config = s.config ∧ (s.receiveChars i l).windows = s.windows ∧
    (s.receiveChars i l).plans = s.plans ∧ (s.receiveChars i l).beatAt = s.beatAt ∧
    (s.receiveChars i l).speed = s.speed ∧ (s.receiveChars i l).link = s.link ∧
    (s.receiveChars i l).partTime = s.partTime ∧ (s.receiveChars i l).inReset = s.inReset ∧
    (s.receiveChars i l).freeReadings = s.freeReadings ∧
    (s.receiveChars i l).pending = s.pending := by
  exact State.receiveChars_keeps (P := fun t => t.config = s.config ∧
      t.windows = s.windows ∧ t.plans = s.plans ∧ t.beatAt = s.beatAt ∧ t.speed = s.speed ∧ t.link = s.link ∧
      t.partTime = s.partTime ∧ t.inReset = s.inReset ∧ t.freeReadings = s.freeReadings ∧
      t.pending = s.pending) (fun b t ht => by simpa using ht) (by simp) l

@[simp] theorem State.answerMissing_frame (i : Slot) (s : State) :
    (s.answerMissing i).config = s.config ∧ (s.answerMissing i).windows = s.windows ∧
    (s.answerMissing i).plans = s.plans ∧ (s.answerMissing i).beatAt = s.beatAt ∧
    (s.answerMissing i).speed = s.speed ∧ (s.answerMissing i).link = s.link ∧
    (s.answerMissing i).partTime = s.partTime ∧ (s.answerMissing i).inReset = s.inReset ∧
    (s.answerMissing i).freeReadings = s.freeReadings ∧
    (s.answerMissing i).pending = s.pending := by
  unfold State.answerMissing; dsimp only; split <;> simp

@[simp] theorem State.encoderSample_frame (a b : Bool) (s : State) :
    (s.encoderSample a b).config = s.config ∧ (s.encoderSample a b).slots = s.slots ∧
    (s.encoderSample a b).extLines = s.extLines ∧ (s.encoderSample a b).windows = s.windows ∧
    (s.encoderSample a b).plans = s.plans ∧ (s.encoderSample a b).committed = s.committed ∧
    (s.encoderSample a b).sync = s.sync ∧ (s.encoderSample a b).beatAt = s.beatAt ∧
    (s.encoderSample a b).drive = s.drive ∧ (s.encoderSample a b).episode = s.episode ∧
    (s.encoderSample a b).mod = s.mod ∧ (s.encoderSample a b).notices = s.notices ∧
    (s.encoderSample a b).link = s.link ∧ (s.encoderSample a b).outputs = s.outputs ∧
    (s.encoderSample a b).partTime = s.partTime ∧ (s.encoderSample a b).inReset = s.inReset ∧
    (s.encoderSample a b).freeReadings = s.freeReadings ∧
    (s.encoderSample a b).pending = s.pending := by
  unfold State.encoderSample; simp

@[simp] theorem State.guardHalt_frame (r : SpeedResult) (s : State) :
    (s.guardHalt r).config = s.config ∧ (s.guardHalt r).slots = s.slots ∧
    (s.guardHalt r).extLines = s.extLines ∧ (s.guardHalt r).windows = s.windows ∧
    (s.guardHalt r).plans = s.plans ∧ (s.guardHalt r).committed = s.committed ∧
    (s.guardHalt r).sync = s.sync ∧ (s.guardHalt r).beatAt = s.beatAt ∧
    (s.guardHalt r).episode = s.episode ∧ (s.guardHalt r).speed = s.speed ∧
    (s.guardHalt r).link = s.link ∧ (s.guardHalt r).partTime = s.partTime ∧
    (s.guardHalt r).inReset = s.inReset ∧ (s.guardHalt r).freeReadings = s.freeReadings ∧
    (s.guardHalt r).pending = s.pending := by
  unfold State.guardHalt; (repeat' split) <;> simp

@[simp] theorem State.guardRide_frame (e : EpisodeRecord) (r : SpeedResult) (s : State) :
    (s.guardRide e r).config = s.config ∧ (s.guardRide e r).extLines = s.extLines ∧
    (s.guardRide e r).windows = s.windows ∧ (s.guardRide e r).plans = s.plans ∧
    (s.guardRide e r).committed = s.committed ∧ (s.guardRide e r).sync = s.sync ∧
    (s.guardRide e r).beatAt = s.beatAt ∧ (s.guardRide e r).speed = s.speed ∧
    (s.guardRide e r).link = s.link ∧ (s.guardRide e r).partTime = s.partTime ∧
    (s.guardRide e r).inReset = s.inReset ∧ (s.guardRide e r).freeReadings = s.freeReadings ∧
    (s.guardRide e r).pending = s.pending := by
  unfold State.guardRide; (repeat' split) <;> simp

@[simp] theorem State.guardNote_frame (b r : SpeedResult) (s : State) :
    (s.guardNote b r).config = s.config ∧ (s.guardNote b r).slots = s.slots ∧
    (s.guardNote b r).extLines = s.extLines ∧ (s.guardNote b r).windows = s.windows ∧
    (s.guardNote b r).plans = s.plans ∧ (s.guardNote b r).committed = s.committed ∧
    (s.guardNote b r).sync = s.sync ∧ (s.guardNote b r).beatAt = s.beatAt ∧
    (s.guardNote b r).drive = s.drive ∧ (s.guardNote b r).episode = s.episode ∧
    (s.guardNote b r).speed = s.speed ∧ (s.guardNote b r).mod = s.mod ∧
    (s.guardNote b r).link = s.link ∧ (s.guardNote b r).partTime = s.partTime ∧
    (s.guardNote b r).inReset = s.inReset ∧ (s.guardNote b r).freeReadings = s.freeReadings ∧
    (s.guardNote b r).pending = s.pending := by
  unfold State.guardNote; split <;> simp

@[simp] theorem State.judgeSpeed_frame (b r : SpeedResult) (s : State) :
    (s.judgeSpeed b r).config = s.config ∧ (s.judgeSpeed b r).extLines = s.extLines ∧
    (s.judgeSpeed b r).windows = s.windows ∧ (s.judgeSpeed b r).plans = s.plans ∧
    (s.judgeSpeed b r).committed = s.committed ∧ (s.judgeSpeed b r).sync = s.sync ∧
    (s.judgeSpeed b r).beatAt = s.beatAt ∧ (s.judgeSpeed b r).speed = s.speed ∧
    (s.judgeSpeed b r).link = s.link ∧ (s.judgeSpeed b r).partTime = s.partTime ∧
    (s.judgeSpeed b r).inReset = s.inReset ∧ (s.judgeSpeed b r).freeReadings = s.freeReadings ∧
    (s.judgeSpeed b r).pending = s.pending := by
  unfold State.judgeSpeed; (repeat' split) <;> simp

@[simp] theorem State.gateCompletion_frame (s : State) :
    s.gateCompletion.config = s.config ∧ s.gateCompletion.extLines = s.extLines ∧
    s.gateCompletion.windows = s.windows ∧ s.gateCompletion.plans = s.plans ∧
    s.gateCompletion.committed = s.committed ∧ s.gateCompletion.sync = s.sync ∧
    s.gateCompletion.beatAt = s.beatAt ∧ s.gateCompletion.link = s.link ∧
    s.gateCompletion.partTime = s.partTime ∧ s.gateCompletion.inReset = s.inReset ∧
    s.gateCompletion.freeReadings = s.freeReadings ∧ s.gateCompletion.pending = s.pending := by
  unfold State.gateCompletion; (repeat' split) <;> simp

@[simp] theorem State.rampCompletion_frame (s : State) :
    s.rampCompletion.config = s.config ∧ s.rampCompletion.slots = s.slots ∧
    s.rampCompletion.extLines = s.extLines ∧ s.rampCompletion.windows = s.windows ∧
    s.rampCompletion.plans = s.plans ∧ s.rampCompletion.committed = s.committed ∧
    s.rampCompletion.sync = s.sync ∧ s.rampCompletion.beatAt = s.beatAt ∧
    s.rampCompletion.drive = s.drive ∧ s.rampCompletion.speed = s.speed ∧
    s.rampCompletion.link = s.link ∧ s.rampCompletion.partTime = s.partTime ∧
    s.rampCompletion.inReset = s.inReset ∧ s.rampCompletion.freeReadings = s.freeReadings ∧
    s.rampCompletion.pending = s.pending := by
  unfold State.rampCompletion; (repeat' split) <;> simp

@[simp] theorem State.settleExpiry_frame (s : State) :
    s.settleExpiry.config = s.config ∧ s.settleExpiry.extLines = s.extLines ∧
    s.settleExpiry.windows = s.windows ∧ s.settleExpiry.plans = s.plans ∧
    s.settleExpiry.beatAt = s.beatAt ∧ s.settleExpiry.speed = s.speed ∧
    s.settleExpiry.link = s.link ∧ s.settleExpiry.partTime = s.partTime ∧
    s.settleExpiry.inReset = s.inReset ∧ s.settleExpiry.freeReadings = s.freeReadings ∧
    s.settleExpiry.pending = s.pending := by
  unfold State.settleExpiry; (repeat' (first | split | dsimp only)) <;> simp

@[simp] theorem State.windowExpiry_frame (s : State) :
    s.windowExpiry.config = s.config ∧ s.windowExpiry.extLines = s.extLines ∧
    s.windowExpiry.windows = s.windows ∧ s.windowExpiry.plans = s.plans ∧
    s.windowExpiry.committed = s.committed ∧ s.windowExpiry.sync = s.sync ∧
    s.windowExpiry.beatAt = s.beatAt ∧ s.windowExpiry.speed = s.speed ∧
    s.windowExpiry.link = s.link ∧ s.windowExpiry.partTime = s.partTime ∧
    s.windowExpiry.inReset = s.inReset ∧ s.windowExpiry.freeReadings = s.freeReadings ∧
    s.windowExpiry.pending = s.pending := by
  unfold State.windowExpiry; (repeat' split) <;> simp

@[simp] theorem State.handoverExpiry_frame (s : State) :
    s.handoverExpiry.config = s.config ∧ s.handoverExpiry.extLines = s.extLines ∧
    s.handoverExpiry.windows = s.windows ∧ s.handoverExpiry.plans = s.plans ∧
    s.handoverExpiry.committed = s.committed ∧ s.handoverExpiry.sync = s.sync ∧
    s.handoverExpiry.beatAt = s.beatAt ∧ s.handoverExpiry.speed = s.speed ∧
    s.handoverExpiry.link = s.link ∧ s.handoverExpiry.partTime = s.partTime ∧
    s.handoverExpiry.inReset = s.inReset ∧ s.handoverExpiry.freeReadings = s.freeReadings ∧
    s.handoverExpiry.pending = s.pending := by
  unfold State.handoverExpiry; (repeat' split) <;> simp

@[simp] theorem State.supervisionExpiry_frame (s : State) :
    s.supervisionExpiry.config = s.config ∧ s.supervisionExpiry.slots = s.slots ∧
    s.supervisionExpiry.extLines = s.extLines ∧ s.supervisionExpiry.windows = s.windows ∧
    s.supervisionExpiry.plans = s.plans ∧ s.supervisionExpiry.committed = s.committed ∧
    s.supervisionExpiry.sync = s.sync ∧ s.supervisionExpiry.beatAt = s.beatAt ∧
    s.supervisionExpiry.episode = s.episode ∧ s.supervisionExpiry.speed = s.speed ∧
    s.supervisionExpiry.link = s.link ∧ s.supervisionExpiry.partTime = s.partTime ∧
    s.supervisionExpiry.inReset = s.inReset ∧ s.supervisionExpiry.freeReadings = s.freeReadings ∧
    s.supervisionExpiry.pending = s.pending := by
  unfold State.supervisionExpiry; (repeat' (first | split | dsimp only)) <;> simp

@[simp] theorem State.firstConfigure_frame (s : State) :
    s.firstConfigure.config = s.config ∧ s.firstConfigure.extLines = s.extLines ∧
    s.firstConfigure.windows = s.windows ∧ s.firstConfigure.plans = s.plans ∧
    s.firstConfigure.committed = s.committed ∧ s.firstConfigure.sync = s.sync ∧
    s.firstConfigure.beatAt = s.beatAt ∧ s.firstConfigure.episode = s.episode ∧
    s.firstConfigure.mod = s.mod ∧ s.firstConfigure.link = s.link ∧
    s.firstConfigure.partTime = s.partTime ∧ s.firstConfigure.inReset = s.inReset ∧
    s.firstConfigure.freeReadings = s.freeReadings ∧ s.firstConfigure.pending = s.pending := by
  unfold State.firstConfigure; simp

@[simp] theorem State.acceptConfig_frame (q : Items) (s : State) :
    (s.acceptConfig q).extLines = s.extLines ∧ (s.acceptConfig q).windows = s.windows ∧
    (s.acceptConfig q).plans = s.plans ∧ (s.acceptConfig q).committed = s.committed ∧
    (s.acceptConfig q).sync = s.sync ∧ (s.acceptConfig q).beatAt = s.beatAt ∧
    (s.acceptConfig q).episode = s.episode ∧ (s.acceptConfig q).mod = s.mod ∧
    (s.acceptConfig q).link = s.link ∧ (s.acceptConfig q).partTime = s.partTime ∧
    (s.acceptConfig q).inReset = s.inReset ∧ (s.acceptConfig q).freeReadings = s.freeReadings ∧
    (s.acceptConfig q).pending = s.pending := by
  unfold State.acceptConfig; dsimp only; split <;> simp

@[simp] theorem State.acceptStart_frame (s : State) :
    s.acceptStart.config = s.config ∧ s.acceptStart.extLines = s.extLines ∧
    s.acceptStart.windows = s.windows ∧ s.acceptStart.plans = s.plans ∧
    s.acceptStart.beatAt = s.beatAt ∧ s.acceptStart.speed = s.speed ∧ s.acceptStart.link = s.link ∧
    s.acceptStart.partTime = s.partTime ∧ s.acceptStart.inReset = s.inReset ∧
    s.acceptStart.freeReadings = s.freeReadings ∧ s.acceptStart.pending = s.pending := by
  unfold State.acceptStart; simp

@[simp] theorem State.acceptStop_frame (s : State) :
    s.acceptStop.config = s.config ∧ s.acceptStop.extLines = s.extLines ∧
    s.acceptStop.windows = s.windows ∧ s.acceptStop.plans = s.plans ∧
    s.acceptStop.committed = s.committed ∧ s.acceptStop.sync = s.sync ∧
    s.acceptStop.beatAt = s.beatAt ∧ s.acceptStop.speed = s.speed ∧ s.acceptStop.link = s.link ∧
    s.acceptStop.partTime = s.partTime ∧ s.acceptStop.inReset = s.inReset ∧
    s.acceptStop.freeReadings = s.freeReadings ∧ s.acceptStop.pending = s.pending := by
  unfold State.acceptStop; split <;> simp

@[simp] theorem State.acceptClearHalt_frame (s : State) :
    s.acceptClearHalt.config = s.config ∧ s.acceptClearHalt.slots = s.slots ∧
    s.acceptClearHalt.extLines = s.extLines ∧ s.acceptClearHalt.windows = s.windows ∧
    s.acceptClearHalt.plans = s.plans ∧ s.acceptClearHalt.committed = s.committed ∧
    s.acceptClearHalt.sync = s.sync ∧ s.acceptClearHalt.beatAt = s.beatAt ∧
    s.acceptClearHalt.episode = s.episode ∧ s.acceptClearHalt.speed = s.speed ∧
    s.acceptClearHalt.mod = s.mod ∧ s.acceptClearHalt.link = s.link ∧
    s.acceptClearHalt.partTime = s.partTime ∧ s.acceptClearHalt.inReset = s.inReset ∧
    s.acceptClearHalt.freeReadings = s.freeReadings ∧ s.acceptClearHalt.pending = s.pending := by
  unfold State.acceptClearHalt; simp

@[simp] theorem State.acceptReference_frame (r : Reference) (s : State) :
    (s.acceptReference r).config = s.config ∧ (s.acceptReference r).extLines = s.extLines ∧
    (s.acceptReference r).windows = s.windows ∧ (s.acceptReference r).plans = s.plans ∧
    (s.acceptReference r).committed = s.committed ∧ (s.acceptReference r).sync = s.sync ∧
    (s.acceptReference r).beatAt = s.beatAt ∧ (s.acceptReference r).speed = s.speed ∧
    (s.acceptReference r).link = s.link ∧ (s.acceptReference r).partTime = s.partTime ∧
    (s.acceptReference r).inReset = s.inReset ∧
    (s.acceptReference r).freeReadings = s.freeReadings ∧
    (s.acceptReference r).pending = s.pending := by
  unfold State.acceptReference; split <;> simp

@[simp] theorem State.linkReset_frame (s : State) :
    s.linkReset.config = s.config ∧ s.linkReset.slots = s.slots ∧
    s.linkReset.extLines = s.extLines ∧ s.linkReset.windows = s.windows ∧
    s.linkReset.plans = s.plans ∧ s.linkReset.committed = s.committed ∧ s.linkReset.sync = s.sync ∧
    s.linkReset.beatAt = s.beatAt ∧ s.linkReset.drive = s.drive ∧ s.linkReset.episode = s.episode ∧
    s.linkReset.speed = s.speed ∧ s.linkReset.mod = s.mod ∧ s.linkReset.partTime = s.partTime ∧
    s.linkReset.inReset = s.inReset ∧ s.linkReset.freeReadings = s.freeReadings ∧
    s.linkReset.pending = s.pending := by
  unfold State.linkReset; simp

/-- A request's service leaves the part as it was, or as the request leaves it. -/
theorem serveWith_fst (c : Option RefusalCause) (t : State) (b : List Byte) (s : State) :
    (serveWith c t b s).1 = if c.isSome then s else t := by
  unfold serveWith; cases c <;> rfl

/-- A service that is refused changes nothing (R153). -/
theorem serveWith_refused {c : Option RefusalCause} {t : State} {b : List Byte} {s : State}
    {k : RefusalCause} (h : (serveWith c t b s).2 = .refused k) : (serveWith c t b s).1 = s := by
  unfold serveWith at *; cases c <;> simp_all

/-- Whatever the part and the part a request leaves share, the part after its service shares. -/
theorem serveWith_keeps {P : State → Prop} {c : Option RefusalCause} {t : State} {b : List Byte}
    {s : State} (hs : P s) (ht : P t) : P (serveWith c t b s).1 := by
  rw [serveWith_fst]; split <;> assumption

/-- No request moves part time, the beat, the device reset or the waiting commands. -/
@[simp] theorem serveKind_frame (k : RequestKind) (q : Items) (s : State) :
    (serveKind k q s).1.partTime = s.partTime ∧ (serveKind k q s).1.beatAt = s.beatAt ∧
    (serveKind k q s).1.inReset = s.inReset ∧ (serveKind k q s).1.pending = s.pending := by
  cases k <;> simp only [serveKind, serveConfigure, serveReadConfig, serveStart, serveStop, serveClearHalt,
    serveReference, serveBypassCell, serveReturnCell, serveReadCell, serveReadCells, serveRouteSet,
    serveRouteRead, serveExtSet, servePlanPut, servePlanDrop, servePlanList, servePlanClear,
    serveReadEpisode, serveTakeNotices, serveNoticeMask, serveReadStatus, serveLinkReset] <;>
    (repeat' split) <;>
    exact serveWith_keeps (P := fun t => t.partTime = s.partTime ∧ t.beatAt = s.beatAt ∧
      t.inReset = s.inReset ∧ t.pending = s.pending) ⟨rfl, rfl, rfl, rfl⟩ (by simp)

/-- A request of any kind but LINK_RESET leaves the control link as it was. -/
theorem serveKind_link {k : RequestKind} (hk : k ≠ .linkReset) (q : Items) (s : State) :
    (serveKind k q s).1.link = s.link := by
  cases k <;> simp only [serveKind, serveConfigure, serveReadConfig, serveStart, serveStop, serveClearHalt,
    serveReference, serveBypassCell, serveReturnCell, serveReadCell, serveReadCells, serveRouteSet,
    serveRouteRead, serveExtSet, servePlanPut, servePlanDrop, servePlanList, servePlanClear,
    serveReadEpisode, serveTakeNotices, serveNoticeMask, serveReadStatus, ne_eq, not_true_eq_false] at * <;>
    (repeat' split) <;>
    exact serveWith_keeps (P := fun t => t.link = s.link) rfl (by simp)

/-- Whatever the service of a request keeps, for each kind a block serves, serving any request keeps. -/
theorem serveRequest_keeps {P : State → Prop} {s : State} (hs : P s)
    (h : ∀ k q, P (serveKind k q s).1) (r : Request) : P (serveRequest r s).1 := by
  unfold serveRequest; (repeat' split) <;> first | exact hs | exact h _ _

end Sys2Proof.Machine
end

