-- ==== Sys2Proof/Laws/CellLinks.lean ====
section
/-! SUPPORT. What the characters received on a cell link do (R178), and when a time has been reached. -/

namespace Sys2Proof.Machine

/-! ## Times reached -/

@[simp] theorem elapsed_eq_true {start now : PartTime} {length : Nat} :
    elapsed start length now = true ↔ length ≤ (now - start).toNat := by simp [elapsed]

@[simp] theorem Timer.due_eq_true {t : Timer} {now : PartTime} :
    t.due now = true ↔ t.length ≤ (now - t.start).toNat := elapsed_eq_true

@[simp] theorem PulseOp.due_eq_true {p : PulseOp} {now : PartTime} :
    p.due now = true ↔ 1000 * p.timeout ≤ (now - p.asserted).toNat := elapsed_eq_true

@[simp] theorem Gate.due_eq_true {g : Gate} {now : PartTime} :
    g.due now = true ↔ 1000 * g.length ≤ (now - g.start).toNat := elapsed_eq_true

@[simp] theorem Transmission.due_eq_true {x : Transmission} {rate : Baud} {now : PartTime} :
    x.due rate now = true ↔ lineTime rate x.bytes.length ≤ (now - x.start).toNat := elapsed_eq_true

/-! ## Answer windows -/

/-- The windows of a slot whose answers are not yet taken: those that have closed so, and the open one. -/
def LinkFacts.windows (l : LinkFacts) : Nat := l.owed + l.awaiting.toNat

/-- A beat adds one window, whatever is owed (R30). -/
@[simp] theorem LinkFacts.windows_sendFrame (l : LinkFacts) (f : CommandFrame) :
    (l.sendFrame f).windows = l.windows + 1 := by
  cases h : l.awaiting <;> simp [LinkFacts.windows, LinkFacts.sendFrame, h]

/-- A missing answer takes one window (R30). -/
@[simp] theorem LinkFacts.windows_missed (l : LinkFacts) (c : Config) :
    (l.missed c).windows = l.windows - 1 := by
  cases h : l.awaiting <;> simp [LinkFacts.windows, LinkFacts.missed, h]
  rcases Nat.eq_zero_or_pos l.owed with h0 | h0
  · simp [h0]
  · simp [h0]; omega

/-- A good frame takes the open window alone (R30). -/
@[simp] theorem LinkFacts.windows_taken (l : LinkFacts) (x : SlotState) (c : Config) (r : CellReport) :
    (l.taken x c r).windows = l.owed := by simp [LinkFacts.windows, LinkFacts.taken]

/-- A tick raises one missing answer for each window of the slot that has closed without its answer. -/
theorem count_missingEvent (s : State) (i : Slot) :
    (allSlots.flatMap (missingEvent s)).count (.answerMissing i) = (s.slot i).link.owed := by
  have h : List.count (Instr.answerMissing i) ∘ missingEvent s =
      fun j => if j = i then (s.slot i).link.owed else 0 := by
    funext j
    simp only [Function.comp, missingEvent, List.count_replicate]
    by_cases h : j = i <;> simp [h]
  rw [List.count_flatMap, h, show allSlots = List.finRange 27 by decide, ← List.ofFn_eq_map, List.sum_ofFn]
  simp

/-! ## Characters of a status frame -/

/-- The slot's answer window is open with no good frame taken in it (R30). -/
def State.waits (i : Slot) (s : State) : Prop :=
  s.configured i = true ∧ (s.slot i).link.awaiting = true

/-- A slot's record set twice is the record set last. -/
theorem State.setSlot_setSlot (i : Slot) (a b : SlotRecord) (s : State) :
    (s.setSlot i a).setSlot i b = s.setSlot i b := by simp [State.setSlot]

theorem State.setGroup_setGroup (i : Slot) (g h : List Byte) (s : State) :
    (s.setGroup i g).setGroup i h = s.setGroup i h := by
  simp [State.setGroup, State.setSlot_setSlot]

/-- The characters held do not enter what a whole group does. -/
theorem State.judgeGroup_setGroup (i : Slot) (g h : List Byte) (s : State) :
    (s.setGroup i g).judgeGroup i h = s.judgeGroup i h := by
  unfold State.judgeGroup
  split
  · exact s.setGroup_setGroup i g []
  · simp only [State.takeReport, State.setGroup, State.setSlot_slot_self, State.setSlot_setSlot,
      State.setSlot_config]
    rfl

/-- The group a slot holds already, set again. -/
theorem State.setGroup_self (i : Slot) (s : State) : s.setGroup i (s.slot i).link.group = s := by
  show s.setSlot i (s.slot i) = s
  simp [State.setSlot, State.slot]

/-- A character in a window that waits joins the characters held, and the sixth has the group judged. -/
theorem State.receiveChar_waits {i : Slot} {s : State} (h : s.waits i) (b : Byte) :
    s.receiveChar i b = if ((s.slot i).link.group ++ [b]).length < 6 then
      s.setGroup i ((s.slot i).link.group ++ [b]) else s.judgeGroup i ((s.slot i).link.group ++ [b]) :=
  if_pos h

/-- The characters held do not enter whether the window waits. -/
theorem State.waits_setGroup {i : Slot} {s : State} (h : s.waits i) (g : List Byte) :
    (s.setGroup i g).waits i :=
  ⟨h.1, by simpa [State.setGroup] using h.2⟩

theorem State.receiveChars_append (i : Slot) (a b : List Byte) (s : State) :
    s.receiveChars i (a ++ b) = (s.receiveChars i a).receiveChars i b := List.foldl_append

/-- Characters outside a window that waits change nothing. -/
theorem State.receiveChars_idle {i : Slot} {s : State} (h : ¬s.waits i) (l : List Byte) :
    s.receiveChars i l = s := by
  induction l with
  | nil => rfl
  | cons b l ih =>
    have h1 : s.receiveChar i b = s := if_neg h
    rw [State.receiveChars, List.foldl_cons, h1]
    exact ih

/-- Characters that do not yet make a group of six are held. -/
theorem State.receiveChars_gather {i : Slot} (l : List Byte) {s : State} (h : s.waits i)
    (hl : ((s.slot i).link.group ++ l).length < 6) :
    s.receiveChars i l = s.setGroup i ((s.slot i).link.group ++ l) := by
  induction l generalizing s with
  | nil => rw [List.append_nil, State.setGroup_self]; rfl
  | cons b l ih =>
    have hb : ((s.slot i).link.group ++ [b]).length < 6 := by simp at hl ⊢; omega
    have h1 : s.receiveChar i b = s.setGroup i ((s.slot i).link.group ++ [b]) := 
      (State.receiveChar_waits h b).trans (if_pos hb)
    have h2 : ((s.setGroup i ((s.slot i).link.group ++ [b])).slot i).link.group =
        (s.slot i).link.group ++ [b] := by simp [State.setGroup]
    rw [State.receiveChars, List.foldl_cons, h1]
    refine (ih (State.waits_setGroup h _) (by rw [h2]; simpa using hl)).trans ?_
    rw [h2, State.setGroup_setGroup]; simp

/-- The character that completes a group of six has the group judged. -/
theorem State.receiveChars_group {i : Slot} {l : List Byte} {s : State} (h : s.waits i) (hn : l ≠ [])
    (hl : ((s.slot i).link.group ++ l).length = 6) :
    s.receiveChars i l = s.judgeGroup i ((s.slot i).link.group ++ l) := by
  obtain ⟨a, b, rfl⟩ := (List.eq_nil_or_concat' l).resolve_left hn
  have ha : ((s.slot i).link.group ++ a).length < 6 := by simp at hl ⊢; omega
  rw [State.receiveChars_append, State.receiveChars_gather a h ha]
  have h2 : ((s.setGroup i ((s.slot i).link.group ++ a)).slot i).link.group =
      (s.slot i).link.group ++ a := by simp [State.setGroup]
  have h3 : ¬((s.slot i).link.group ++ a ++ [b]).length < 6 := by simp at hl ⊢; omega
  rw [State.receiveChars, List.foldl_cons, List.foldl_nil,
    State.receiveChar_waits (State.waits_setGroup h _), h2, if_neg h3, State.judgeGroup_setGroup,
    List.append_assoc]

end Sys2Proof.Machine
end

