-- ==== Sys2Proof/Laws/Exec.lean ====
section
/-! SUPPORT. What a command can do, said once: how a condition on the state that each block's operations
keep is kept by every command and every step. -/

namespace Sys2Proof.Machine

/-- An effect outside a device reset answers the state it leaves. -/
theorem live_of_not_inReset {f : State → State} {s : State} (h : s.inReset = false) :
    live f s = .next (f s) := by simp [live, h]

/-- While a device reset lasts an effect answers the state it found. -/
theorem live_of_inReset {f : State → State} {s : State} (h : s.inReset = true) :
    live f s = .next s := by simp [live, h]

/-- A condition that an effect keeps stands in the state it answers. -/
theorem live_keeps {P : State → Prop} {f : State → State} {s t : State} (h : live f s = .next t)
    (hs : P s) (hf : P (f s)) : P t := by
  unfold live at h; cases h; split <;> assumption

/-- A condition that counting a discard, queueing and serving keep is kept by a request's command. -/
theorem request_keeps {P : State → Prop} {s : State} (k tag : Byte) (p : List Byte)
    (hcount : P s.countDiscard)
    (hserve : P (s.arrive { kind := k, tag := tag, payload := p })) : P (s.request k tag p) := by
  unfold State.request; split <;> assumption

/-- What serving the head of the request queue does: nothing, or the head leaves the queue, is served and
its reply joins the reply queue (R152). -/
theorem serveHead_cases (s : State) :
    s.serveHead = s ∨ ∃ r rest, s.link.requests = r :: rest ∧ s.link.replies.length < 2 ∧
      s.serveHead = (serveRequest r (s.setRequests rest)).1.pushReply r
        (serveRequest r (s.setRequests rest)).2 := by
  unfold State.serveHead
  split
  · exact .inl rfl
  · next r rest e =>
    split
    · next h => exact .inr ⟨r, rest, e, h, rfl⟩
    · exact .inl rfl

/-- A condition on the part beside the control link that the service of every request keeps is kept by
serving the head of the request queue. -/
theorem serveHead_keeps {P : State → Prop} (hlink : ∀ s l, P s → P { s with link := l })
    (hserve : ∀ k q s, P s → P (serveKind k q s).1) {s : State} (hs : P s) : P s.serveHead := by
  rcases serveHead_cases s with h | ⟨r, rest, -, -, h⟩
  · rw [h]; exact hs
  · rw [h]
    have h1 : P (s.setRequests rest) := hlink s _ hs
    exact hlink _ _ (serveRequest_keeps h1 (fun k q => hserve k q _ h1) r)

/-- The same, of a frame that arrives. -/
theorem arrive_keeps {P : State → Prop} (hlink : ∀ s l, P s → P { s with link := l })
    (hserve : ∀ k q s, P s → P (serveKind k q s).1) {s : State} (hs : P s) (r : Request) :
    P (s.arrive r) := by
  refine serveHead_keeps hlink hserve ?_
  unfold State.offerRequest
  (repeat' split) <;> exact hlink _ _ hs

/-- The same, of a byte taken while a frame is being assembled. -/
theorem takeByte_keeps {P : State → Prop} (hlink : ∀ s l, P s → P { s with link := l })
    (hserve : ∀ k q s, P s → P (serveKind k q s).1) {s : State} (hs : P s) (bytes : List Byte) (b : Byte) :
    P (s.takeByte bytes b) := by
  unfold State.takeByte
  dsimp only
  split
  · exact hs
  · split
    · exact hlink _ _ (hlink _ _ hs)
    · split
      · have h1 : P (s.setRx .hunting) := hlink _ _ hs
        unfold State.judgeFrame
        split
        · dsimp only
          split
          · exact arrive_keeps hlink hserve h1 _
          · exact hlink _ _ h1
        · exact hlink _ _ h1
      · exact hlink _ _ hs

/-- Part time moved up to a moment is a change of part time alone. -/
theorem reach_keeps {P : State → Prop} (htime : ∀ s t, P s → P { s with partTime := t }) {s : State}
    (hs : P s) (t : PartTime) (n : Nat) : P (s.reach t n) := by
  unfold State.reach; split
  · exact htime _ _ hs
  · exact hs

/-- A condition on the part beside the control link and the device reset's flag that the device
reset restores and that each block's operation keeps is kept by every command. -/
theorem exec_keeps {P : State → Prop}
    (hlink : ∀ s l, P s → P { s with link := l })
    (hin : ∀ s b, P s → P { s with inReset := b })
    (hreset : ∀ s : State, P s.deviceReset)
    (hserve : ∀ k q s, P s → P (serveKind k q s).1)
    (hbeat : ∀ s : State, P s → P s.beat)
    (hramp : ∀ s : State, P s → P s.rampCompletion)
    (hchar : ∀ i b s, P s → P (State.receiveChar i b s))
    (hmissing : ∀ i s, P s → P (State.answerMissing i s))
    (hline : ∀ l mv s, P s → P (State.extLineSample l mv s))
    (hfeedback : ∀ i b s, P s → P (State.feedbackSample i b s))
    (hpulse : ∀ x i s, x = .bypassing ∨ x = .returning → P s → P (State.pulseTimeout x i s))
    (hgate : ∀ s : State, P s → P s.gateCompletion)
    (hsettle : ∀ s : State, P s → P s.settleExpiry)
    (hwindow : ∀ s : State, P s → P s.windowExpiry)
    (hhandover : ∀ s : State, P s → P s.handoverExpiry)
    (hsupervision : ∀ s : State, P s → P s.supervisionExpiry)
    (hencoder : ∀ a b s, P s → P (State.encoderSample a b s))
    {c : Instr} {s t : State} (hs : P s) (he : exec c s = .next t) : P t := by
  have hreq : ∀ k tag p, P (s.request k tag p) := fun k tag p =>
    request_keeps k tag p (hlink _ _ hs) (arrive_keeps hlink hserve hs _)
  cases c
  case deviceReset mv rn =>
    simp only [exec, execDeviceReset] at he
    cases he
    split
    · exact hreset s
    · exact hs
  case resetEnd mv rn a b =>
    simp only [exec, execResetEnd] at he
    cases he
    split
    · exact hlink { s with inReset := false } _ (hin _ _ hs)
    · exact hs
  case unknownKindRequest | configure | readConfig | start | stop | clearHalt | reference | bypassCell |
      returnCell | readCell | readCells | routeSet | routeRead | extSet | planPut | planDrop | planClear |
      planList | readEpisode | takeNotices | noticeMask | readStatus | linkReset =>
    exact live_keeps he hs (hreq _ _ _)
  case framingError =>
    refine live_keeps he hs ?_
    unfold State.framingError; split
    · exact hs
    · exact hlink _ _ (hlink _ _ hs)
  case frameLengthReject len =>
    refine live_keeps he hs ?_
    unfold State.frameLengthReject; (repeat' split) <;> first | exact hs | exact hlink _ _ (hlink _ _ hs)
  case interbyteGapTimeout =>
    refine live_keeps he hs ?_
    unfold State.interbyteGap; (repeat' split) <;> first | exact hs | exact hlink _ _ (hlink _ _ hs)
  case frameComplete b =>
    refine live_keeps he hs ?_
    unfold State.frameComplete; (repeat' split) <;> first | exact hs | exact takeByte_keeps hlink hserve hs _ _
  case transmitBegin =>
    refine live_keeps he hs ?_
    unfold State.transmitBegin; split
    · exact hlink _ _ hs
    · exact hs
  case transmitComplete =>
    refine live_keeps he hs ?_
    unfold State.transmitComplete
    (repeat' split) <;> first | exact hs | exact hlink _ _ hs | exact serveHead_keeps hlink hserve (hlink _ _ hs)
  case beat => exact live_keeps he hs (hbeat s hs)
  case rampCompletion => exact live_keeps he hs (hramp s hs)
  case statusFrameGood i l => exact live_keeps he hs (State.receiveChars_keeps (hchar i) hs l)
  case statusFrameBad i l => exact live_keeps he hs (State.receiveChars_keeps (hchar i) hs l)
  case answerMissing i => exact live_keeps he hs (hmissing i s hs)
  case extLineSample l mv => exact live_keeps he hs (hline l mv s hs)
  case feedbackSample i b => exact live_keeps he hs (hfeedback i b s hs)
  case bypassTimeout i => exact live_keeps he hs (hpulse .bypassing i s (.inl rfl) hs)
  case returnOperationTimeout i => exact live_keeps he hs (hpulse .returning i s (.inr rfl) hs)
  case gateCompletion => exact live_keeps he hs (hgate s hs)
  case settleExpiry => exact live_keeps he hs (hsettle s hs)
  case windowExpiry => exact live_keeps he hs (hwindow s hs)
  case handoverExpiry => exact live_keeps he hs (hhandover s hs)
  case supervisionExpiry => exact live_keeps he hs (hsupervision s hs)
  case encoderSample a b => exact live_keeps he hs (hencoder a b s hs)
  case receiveByte b =>
    refine live_keeps he hs ?_
    unfold State.receiveByte
    split
    · split
      · exact hlink _ _ hs
      · exact hs
    · exact takeByte_keeps hlink hserve hs _ _

/-- A condition that every command keeps, and that neither part time nor the queue of waiting commands
enters, is kept by every step. -/
theorem step_keeps {P : State → Prop}
    (htime : ∀ s t, P s → P { s with partTime := t })
    (hpending : ∀ s l, P s → P { s with pending := l })
    (hexec : ∀ c s t, P s → exec c s = .next t → P t)
    {s t : State} (hs : P s) (h : step s = .next t) : P t := by
  unfold step at h
  split at h
  · cases h
    unfold State.tick
    split
    · exact hs
    · exact hpending _ _ (htime _ _ hs)
  · exact hexec _ _ _ (hpending _ _ hs) h

end Sys2Proof.Machine
end

