-- ==== Sys2Proof/Laws/Formats.lean ====
section
/-! SUPPORT. The value encodings of the reply layouts as their bytes, most significant first. -/

namespace Sys2Proof.Machine

/-- A one-byte value. -/
theorem byte1_eq (n : Nat) : byte1 n = bigEndian 1 n := by simp [bigEndian, byte1, List.range_succ]

/-- A 16-bit word. -/
theorem byte2Of_eq (w : BitVec 16) : byte2Of w = bigEndian 2 w.toNat := by
  simp only [byte2Of, bigEndian, List.range_succ]
  simp
  constructor <;> (apply BitVec.eq_of_toNat_eq; simp [BitVec.extractLsb'_toNat, Nat.shiftRight_eq_div_pow])

/-- A part time. -/
theorem byte4_eq (w : PartTime) : byte4 w = bigEndian 4 w.toNat := by
  simp only [byte4, bigEndian, List.range_succ]
  simp
  refine ⟨?_, ?_, ?_, ?_⟩ <;> (apply BitVec.eq_of_toNat_eq; simp [BitVec.extractLsb'_toNat, Nat.shiftRight_eq_div_pow])

/-- A two-byte unsigned value. -/
theorem byte2_eq (n : Nat) : byte2 n = bigEndian 2 n := by
  rw [byte2, byte2Of_eq]
  simp only [bigEndian, List.range_succ]
  simp
  constructor <;> (apply BitVec.eq_of_toNat_eq; simp; try omega)

/-- A two-byte signed value, in two's complement. -/
theorem byte2s_eq (i : Int) : byte2s i = bigEndian 2 (i % 2 ^ 16).toNat := by
  rw [byte2s, byte2Of_eq, BitVec.toNat_ofInt]; rfl

/-- A three-byte signed value, in two's complement. -/
theorem byte3s_eq (i : Int) : byte3s i = bigEndian 3 (i % 2 ^ 24).toNat := by
  have : (BitVec.ofInt 24 i).toNat = (i % 2 ^ 24).toNat := by rw [BitVec.toNat_ofInt]; rfl
  rw [← this]
  simp only [byte3s, bigEndian, List.range_succ]
  simp
  refine ⟨?_, ?_, ?_⟩ <;> (apply BitVec.eq_of_toNat_eq; simp [BitVec.extractLsb'_toNat, Nat.shiftRight_eq_div_pow])

end Sys2Proof.Machine
end

