-- ==== Sys2Proof/Laws/Operands.lean ====
section
/-! SUPPORT. What a request's fields and the moved part time can be. -/

namespace Sys2Proof.Machine

/-- A field that is there is one of the items. -/
theorem field_mem {q : Items} {id v : Nat} (h : field q id = some v) : (id, v) ∈ q := by
  simp only [field, Option.map_eq_some_iff] at h
  obtain ⟨⟨i, w⟩, hx, rfl⟩ := h
  have hi := List.find?_some hx
  simp only [decide_eq_true_eq] at hi
  subst hi
  exact List.mem_of_find?_eq_some hx

/-- What holds of every item holds of every field that is there. -/
theorem field_of_items {q : Items} {P : Nat → Nat → Prop} (h : ∀ x ∈ q, P x.1 x.2) (id v : Nat)
    (hv : field q id = some v) : P id v :=
  h (id, v) (field_mem hv)

/-- Part time does not move where the moment has been reached. -/
theorem State.reach_of_le {s : State} {start : PartTime} {length : Nat}
    (h : length ≤ (s.partTime - start).toNat) : s.reach start length = s := by
  rw [State.reach, if_neg (Nat.not_lt.mpr h)]

/-- A chain of checks refuses with the first that fails, and passes when none does. -/
theorem firstRefusal_nil : firstRefusal [] = none := rfl

@[simp] theorem firstRefusal_cons (b : Bool) (r : RefusalCause) (l : List (Bool × RefusalCause)) :
    firstRefusal ((b, r) :: l) = if b then firstRefusal l else some r := by
  cases b <;> simp [firstRefusal]

end Sys2Proof.Machine
end

