-- ==== Sys2Proof/Tests/Slice0.lean ====
section
/-! SUPPORT. Tests: the well-formedness checks, the manual's worked figures on one step each, and for every
statement a state and operands that meet its hypotheses. -/

open Sys2Proof Sys2Proof.Machine

namespace Sys2Proof.Tests

set_option Elab.async false

/-! ## Well-formed commands: an ill-formed term for each check -/

/-- A payload one byte longer than a frame holds (R148). -/
def tooLong : List Byte := List.replicate 241 0

theorem test_wf_payloads : [Instr.configure 0 tooLong, .readConfig 0 tooLong, .start 0 tooLong,
    .stop 0 tooLong, .clearHalt 0 tooLong, .reference 0 tooLong, .bypassCell 0 tooLong,
    .returnCell 0 tooLong, .readCell 0 tooLong, .readCells 0 tooLong, .routeSet 0 tooLong,
    .routeRead 0 tooLong, .extSet 0 tooLong, .planPut 0 tooLong, .planDrop 0 tooLong,
    .planClear 0 tooLong, .planList 0 tooLong, .readEpisode 0 tooLong, .takeNotices 0 tooLong,
    .noticeMask 0 tooLong, .readStatus 0 tooLong, .linkReset 0 tooLong,
    .unknownKindRequest 0x17 0 tooLong].all (fun i => !i.wellFormed) = true := by decide +kernel

theorem test_wf_payload_fits : (Instr.start 0 (List.replicate 240 0)).wellFormed = true := by
  decide +kernel

theorem test_wf_unknownKind : (Instr.unknownKindRequest 0x16 0 []).wellFormed = false ∧
    (Instr.unknownKindRequest 0x17 0 []).wellFormed = true ∧
    (Instr.unknownKindRequest 0 0 []).wellFormed = true := by decide +kernel

theorem test_wf_length : (Instr.frameLengthReject 240).wellFormed = false ∧
    (Instr.frameLengthReject 241).wellFormed = true := by decide

theorem test_wf_reset : (Instr.deviceReset 2950 true).wellFormed = false ∧
    (Instr.deviceReset 2949 true).wellFormed = true ∧ (Instr.deviceReset 3300 false).wellFormed = true ∧
    (Instr.resetEnd 3050 true true true).wellFormed = false ∧
    (Instr.resetEnd 3051 false true true).wellFormed = false ∧
    (Instr.resetEnd 3051 true true true).wellFormed = true := by decide

theorem test_wf_statusFrame : (Instr.statusFrameGood 0 [0, 0, 0, 0, 0, 1]).wellFormed = false ∧
    (Instr.statusFrameGood 0 [0, 0, 0, 0, 0]).wellFormed = false ∧
    (Instr.statusFrameGood 0 [0, 0, 0, 0, 0, 0]).wellFormed = true ∧
    (Instr.statusFrameBad 0 [0, 0, 0, 0, 0, 0]).wellFormed = false ∧
    (Instr.statusFrameBad 0 [0, 0, 0, 0, 0]).wellFormed = true := by decide +kernel

/-! ## Frame checks and encodings (12) -/

/-- Over the nine bytes 0x31 to 0x39 the frame check of R149 gives 0x29B1 and that of R178 gives 0xF4. -/
theorem test_frame_checks :
    crc16 [0x31, 0x32, 0x33, 0x34, 0x35, 0x36, 0x37, 0x38, 0x39] = 0x29B1 ∧
    crc8 [0x31, 0x32, 0x33, 0x34, 0x35, 0x36, 0x37, 0x38, 0x39] = 0xF4 := by decide +kernel

/-- The table gives no row any bits. -/
theorem test_no_word_spells_a_command : decodeTableWord 8 0 = none := rfl

/-! ## States the tests start from -/

/-- N = 2, min_cells = 1, the rest as at reset. -/
def config2 : Config := { n := some 2, minCells := 1 }

/-- Positions 1 and 2 of each phase ACTIVE. -/
def twoActive : Vector SlotRecord 27 :=
  Vector.ofFn fun i => if i.val % 9 < 2 then { state := .active } else {}

/-- A gate started at part time 0 with the default parameters. -/
def gate0 : Gate :=
  { start := 0, encoderLines := 2048, polePairs := 2, length := 10, count := 0, illegal := 0 }

/-- The drive STOPPED with two ACTIVE cells a phase. -/
def stopped : State :=
  { config := config2, slots := twoActive, drive := { state := .stopped },
    outputs := { brkDemand := false }, speed := { gate := some gate0 } }

/-- The plan of section 6.7 on keys of two cells a phase. -/
def plan : CommittedPlan :=
  { period := 10000
    fields := { counts := { a := 2, b := 2, c := 2 }, lagB := 1254, lagC := 2508, r := 941,
                source := .fallback, parked := [] } }

/-- The drive RUNNING on that plan. -/
def running : State :=
  { stopped with
    drive := { state := .running, supervision := some { start := 0, length := 20000 } }
    committed := some plan }

/-- The drive HALTED. -/
def halted : State :=
  { stopped with
    drive := { state := .halted, haltCause := some 0x5001 }, outputs := { brkDemand := true } }

/-- An episode of slot A1 in a phase, with an entry's outcome. -/
def record (p : EpisodePhase) (o : InvolvedOutcome) : EpisodeRecord :=
  { number := 1, opened := 0, phase := p, fTrip := 3000
    involved := [{ slot := 0, code := 0x1005, route := 0, closeTime := none, outcome := o }]
    reisolations := 0, plan := some plan.fields
    capture := if p = .magnetize ∨ p = .handover
      then some { fr := 3000, ut := 620, fCeil := 4605, reduced := false } else none
    outcome := none, closed := none }

/-- The drive RIDING in a phase, slot A1 in a state. -/
def riding (p : EpisodePhase) (x : SlotState) (o : InvolvedOutcome) : State :=
  State.setSlot 0
    { state := x
      fault := { last := some { code := 0x1005, action := .ride, time := 0 }, count := 1 }
      contactor := Contactor.driven {} x 0 60 }
    { stopped with
      drive := { state := .riding }, outputs := { brkDemand := false, rideActive := true }
      committed := some plan
      episode :=
        { current := some (record p o), counter := 1
          settle := if p = .isolate then some { start := 0, length := 5000 } else none
          window := if p = .handover then none else some { start := 0, length := 400000 }
          handover := if p = .handover then some { start := 0, length := 50000 } else none } }

/-- The state a command leaves, if it answers one. -/
def after (i : Instr) (s : State) : Option State :=
  match exec i s with
  | .next t => some t
  | .fault _ => none
  | .refused _ => none

/-- What a reading of the state after a command gives. -/
def reads {α : Type} (i : Instr) (s : State) (f : State → α) : Option α := (after i s).map f

/-! ## Speed unit and modulation figures (06) -/

/-- The worked figures of R111. -/
theorem test_speed_results :
    [(1229, 3000), (-615, -1501), (1, 0), (2, 5)].all (fun x : Int × Int =>
      (Gate.result { gate0 with count := x.1 } 0).f = x.2) = true := by decide +kernel

/-- The worked figures of R117: f_r, f_rated, r, u_t, f_ceil, flux-reduced. -/
theorem test_capture_figures :
    captureFrom 3000 {} 941 = { fr := 3000, ut := 620, fCeil := 4605, reduced := false } ∧
    captureFrom 4700 {} 833 = { fr := 4700, ut := 833, fCeil := 4065, reduced := true } ∧
    captureFrom 0 {} 941 = { fr := 0, ut := 20, fCeil := 4605, reduced := false } ∧
    captureFrom (-1501) {} 941 = { fr := -1501, ut := 320, fCeil := 4605, reduced := false } ∧
    captureFrom 3000 { fRated := 6000 } 941 =
      { fr := 3000, ut := 520, fCeil := 5526, reduced := false } := by decide +kernel

/-- The worked figures of R124. -/
theorem test_index_figures :
    modulationIndex 620 941 = 659 ∧ modulationIndex 310 941 = 329 ∧ modulationIndex 700 941 = 744 ∧
    modulationIndex 941 941 = 1000 ∧ modulationIndex 608 833 = 730 ∧ modulationIndex 1 941 = 1 := by
  decide +kernel

/-- The worked figures of section 6.7. -/
theorem test_offset_figures :
    (List.range 6).map (carrierOffset 0 6 · 10000) = [0, 833, 1666, 2500, 3333, 4166] ∧
    (List.range 5).map (carrierOffset 1 5 · 10000) = [333, 1333, 2333, 3333, 4333] ∧
    (List.range 6).map (carrierOffset 2 6 · 10000) = [555, 1388, 2221, 3055, 3888, 4721] := by
  decide +kernel

/-- The figures of section 6.9 and of R120. -/
theorem test_ramp_and_angle_figures :
    rampMagnitude 620 1 800 = 0 ∧ rampMagnitude 620 2 800 = 1 ∧ rampMagnitude 620 400 800 = 310 ∧
    rampMagnitude 620 800 800 = 620 ∧ advanceAngle 0 3000 = 108000 ∧ advanceAngle 0 (-250) = 35991000 ∧
    phaseAngle 14400000 0 = 1440 ∧ phaseAngle 14400000 1254 = 186 ∧ phaseAngle 14400000 2508 = 2532 := by
  decide +kernel

/-- A quarter-step forward, then one in reverse, then an illegal transition (R109). -/
theorem test_encoderSample :
    reads (.encoderSample true false) { stopped with speed := { held := some (false, false), gate := some gate0 } }
      (·.speed.gate.map (·.count)) = some (some 1) ∧
    reads (.encoderSample false true) { stopped with speed := { held := some (false, false), gate := some gate0 } }
      (·.speed.gate.map (·.count)) = some (some (-1)) ∧
    reads (.encoderSample true true) { stopped with speed := { held := some (false, false), gate := some gate0 } }
      (·.speed.gate.map (·.illegal)) = some (some 1) := by decide +kernel

/-- Section 6.2's example: with f_trip 3000 a result above 3300 fails the episode RUNAWAY. A count of 1353
gives 3303. -/
theorem test_gateCompletion_runaway :
    reads .gateCompletion { riding .bypass .bypassing .pending with
      partTime := 10000, speed := { gate := some { gate0 with count := 1353 } } }
      (fun t => (t.drive.state, t.drive.haltCause, t.episode.current.isSome)) =
      some (.halted, some 0x5002, false) := by decide +kernel

/-- A result captured in CAPTURE takes the episode to MAGNETIZE with the figures of R117. -/
theorem test_gateCompletion_captures :
    reads .gateCompletion { riding .capture .bypassed .bypassed with
      partTime := 10000, speed := { gate := some { gate0 with count := 1229 } } }
      (fun t => (t.phase, t.episode.current.bind (·.capture), t.mod.freq)) =
      some (some .magnetize, some { fr := 3000, ut := 620, fCeil := 4605, reduced := false }, 3000) := by
  decide +kernel

/-! ## Worked examples of the other chapters, one step each -/

/-- Section 5.6: the entry (5, 6, 6) is inserted at index 0 before (6, 5, 6). -/
theorem test_planPut :
    reads (.planPut 7 [1, 5, 2, 6, 3, 6, 4, 0x04, 0xC8, 5, 0x09, 0x48, 6, 0x03, 0x8F])
      { stopped with
        config := { n := some 6 }
        plans := [{ key := { a := 6, b := 5, c := 6 }, lagB := 1254, lagC := 2508, r := 941 }] }
      (fun t => (t.plans.map (·.key), t.link.replies.map (·.answer))) =
    some ([{ a := 5, b := 6, c := 6 }, { a := 6, b := 5, c := 6 }], [.ok [5, 6, 6, 0, 0, 2]]) := by
  decide +kernel

/-- Section 5.6: (5, 5, 6) with r 820 is below floor(1000 × 5 / 6) = 833: RANGE of field r. -/
theorem test_planPut_range :
    reads (.planPut 7 [1, 5, 2, 5, 3, 6, 4, 0x04, 0xB0, 5, 0x09, 0x60, 6, 0x03, 0x34])
      { stopped with config := { n := some 6 } } (·.link.replies.map (·.answer)) =
    some [.refused (.range 6)] := by decide +kernel

/-- The drive of section 5.7: N = 6, B4 and C2 BYPASSED, the table holding (6, 5, 6) alone. -/
def section57 : State :=
  { stopped with
    config := { n := some 6 }
    slots := Vector.ofFn fun i => if i.val = 12 ∨ i.val = 19 then { state := .bypassed }
      else if i.val % 9 < 6 then { state := .active } else {}
    plans := [{ key := { a := 6, b := 5, c := 6 }, lagB := 1254, lagC := 2508, r := 941 }] }

/-- Section 5.7, first START: a miss parks A6, and the offsets are those of the table there. -/
theorem test_start_fallback :
    reads (.start 1 []) section57 (fun t => (t.committed.map (·.fields), t.sync,
      [0, 1, 4, 9, 13, 18, 20].map fun i : Slot => (t.slot i).offset)) =
    some (some { counts := { a := 5, b := 5, c := 5 }, lagB := 1200, lagC := 2400, r := 833,
                 source := .fallback, parked := [5] }, 1,
      [some 0, some 1000, some 4000, some 333, some 3333, some 666, some 1666]) := by decide +kernel

/-- Section 5.7, second START, C2 ACTIVE again and A6 still PARKED: a hit un-parks A6. -/
theorem test_start_hit :
    reads (.start 1 []) ((section57.setSlot 19 { state := .active }).setSlot 5 { state := .parked })
      (fun t => (t.committed.map (·.fields.r), (t.slot 5).state, (t.slot 19).offset, (t.slot 20).offset,
        t.notices.items.map (·.body))) =
    some (some 941, .active, some 1388, some 2221,
      [.cellState 5 .parked .active 0, .driveState .running 0]) := by decide +kernel

/-- Section 7.10 at 30.0 ms: u_d 1100 and f -5800 are applied as 1000 and -5500, both flags set. -/
theorem test_reference :
    reads (.reference 2 [1, 0x04, 0x4C, 2, 0xE9, 0x58])
      { running with
        config := { config2 with fLimit := 5500 }
        committed := some { plan with fields := { plan.fields with r := 1000 } }
        partTime := 30000 }
      (fun t => (t.mod.mag, t.mod.freq, t.drive.reference.map fun r => (r.limited, r.clamped),
        t.drive.supervision)) =
    some (1000, -5500, some (true, true), some { start := 30000, length := 20000 }) := by decide +kernel

/-- Section 7.10 at 50.0 ms: the supervision expiry halts with 0x5004 and demands the brake. -/
theorem test_supervisionExpiry :
    reads .supervisionExpiry { running with partTime := 20000 }
      (fun t => (t.drive.state, t.drive.haltCause, t.outputs.brkDemand, t.outputs.attn)) =
    some (.halted, some 0x5004, true, true) := by decide +kernel

/-- R140: the expiry that waits behind a REFERENCE of its moment does not happen. -/
theorem test_supervisionExpiry_after_reference :
    ((after (.reference 2 [1, 0, 0, 2, 0, 0]) { running with partTime := 20000 }).bind
      (after .supervisionExpiry)).map (fun t => (t.drive.state, t.partTime)) =
    some (.running, 20000) := by decide +kernel

/-- Section 7.10: CLEAR_HALT is refused MOVING at f = -1712 and accepted at a valid f of 0. -/
theorem test_clearHalt :
    reads (.clearHalt 3 []) { halted with speed := { halted.speed with last := { f := -1712, valid := true } } }
      (·.link.replies.map (·.answer)) = some [.refused .moving] ∧
    reads (.clearHalt 3 []) { halted with speed := { halted.speed with last := { f := 0, valid := true } } }
      (fun t => (t.drive.state, t.drive.haltCause, t.outputs.brkDemand)) = some (.stopped, none, false) := by
  decide +kernel

/-- Section 2.7, beat 5: the fourth missing answer takes the link down and presents LINK_LOSS, which by the
default route halts the drive. -/
theorem test_answerMissing :
    reads (.answerMissing 2)
      ({ running with config := { config2 with n := some 6 } }.setSlot 2
        { state := .active, link := { up := true, missing := 3, owed := 1 } })
      (fun t => ((t.slot 2).link.missing, (t.slot 2).link.up, t.drive.haltCause)) =
    some (4, false, some 0x2001) := by decide +kernel

/-- R30: with two missing answers owed, one is taken, and the open window stays open with its characters. -/
theorem test_answerMissing_owed :
    reads (.answerMissing 0)
      (running.setSlot 0 { state := .active, link := { owed := 2, awaiting := true, group := [7] } })
      (fun t => ((t.slot 0).link.missing, (t.slot 0).link.owed, (t.slot 0).link.awaiting, (t.slot 0).link.group)) =
    some (1, 1, true, [7]) := by decide +kernel

/-- Section 2.8, beats 2 and 5: 695 V sets the latch of a slot sent RUN, 820 V clears it. -/
theorem test_statusFrameGood :
    let sent (latch : Bool) : State := running.setSlot 10 { state := .active, link :=
      { awaiting := true, busLow := latch,
        sent := some { mode := .run, index := 0, angle := 0, offset := 0, period := 10000, generation := 0 } } }
    reads (.statusFrameGood 10 (reportBytes { bus := 695, code := 0, echo := 0 })) (sent false)
      (fun t => (t.slot 10).link.busLow) = some true ∧
    reads (.statusFrameGood 10 (reportBytes { bus := 820, code := 0, echo := 0 })) (sent true)
      (fun t => ((t.slot 10).link.busLow, t.drive.state)) = some (false, .running) := by decide +kernel

/-- R178: five characters are held, the sixth completes the group, and a group that is no good frame is
dropped, so that a good one after it is taken. -/
theorem test_statusFrame_groups :
    let waiting : State := running.setSlot 10 { state := .active, link := { awaiting := true } }
    let good := reportBytes { bus := 700, code := 0, echo := 2 }
    reads (.statusFrameBad 10 (good.take 5)) waiting
      (fun t => ((t.slot 10).link.group.length, (t.slot 10).link.awaiting)) = some (5, true) ∧
    reads (.statusFrameBad 10 [0, 0, 0, 0, 0, 1]) waiting
      (fun t => ((t.slot 10).link.group, (t.slot 10).link.awaiting)) = some ([], true) ∧
    reads (.statusFrameGood 10 ([0, 0, 0, 0, 0, 1] ++ good)) waiting
      (fun t => ((t.slot 10).link.bus, (t.slot 10).link.echo, (t.slot 10).link.awaiting)) =
      some (700, 2, false) := by decide +kernel

/-- Section 6.9, ramp beat 400: index 329, angles 720, 3066 and 1812, and the ramp moves on. -/
theorem test_beat :
    reads .beat { riding .magnetize .bypassed .bypassed with
      partTime := 100, mod := { theta := 7200000, rampPos := 400 } }
      (fun t => ([1, 9, 18].map (fun i : Slot => (t.slot i).link.sent.map fun f => (f.mode, f.index, f.angle)),
        t.mod.rampPos, t.mod.theta)) =
    some ([some (.run, 329, 720), some (.run, 329, 3066), some (.run, 329, 1812)], 401, 7308000) := by
  decide +kernel

/-- A bypassed slot is sent BLOCK (R27), and a window closed without an answer is owed beside one owed
before (R30). -/
theorem test_beat_blocks :
    reads .beat { riding .magnetize .bypassed .bypassed with partTime := 100 }
      (fun t => (t.slot 0).link.wire.head?) = some (some 0x00) ∧
    reads .beat (running.setSlot 0 { state := .active, link := { awaiting := true, owed := 1 } })
      (fun t => ((t.slot 0).link.owed, (t.slot 0).link.awaiting)) = some (2, true) := by decide +kernel

/-- Section 12.1: a START frame with its check arrives as the request when its last byte is taken. -/
theorem test_frameComplete :
    reads (.frameComplete (byte2Of (crc16 [0, 0x15, 9]))[1]!)
      { stopped with link := { rx := .assembling [0, 0x15, 9, (byte2Of (crc16 [0, 0x15, 9]))[0]!] 0 } }
      (fun t => (t.link.replies.map fun r => (r.kind, r.tag), t.link.rx)) =
    some ([(0x15, 9)], .hunting) := by decide +kernel

/-- R151: a fifth request behind a full reply queue is refused BUSY, a sixth dropped and counted. -/
theorem test_request_overflow :
    let reply : Reply := { kind := 0x15, tag := 0, answer := .ok [] }
    let waiting : Request := { kind := 0x15, tag := 1, payload := [] }
    let full : State := { stopped with link :=
      { replies := [reply, reply], requests := [waiting, waiting, waiting, waiting] } }
    reads (.readStatus 5 []) full (·.link.refusal) = some (some { kind := 0x15, tag := 5 }) ∧
    reads (.readStatus 6 []) { full with link := { full.link with refusal := some { kind := 0x15, tag := 5 } } }
      (fun t => (t.link.discarded, t.link.requests.length)) = some (1, 4) := by decide +kernel

/-- R75: a REFERENCE in HANDOVER closes the episode RESTORED. -/
theorem test_reference_restores :
    reads (.reference 2 [1, 0x02, 0xBC, 2, 0x0B, 0xB8]) (riding .handover .bypassed .bypassed)
      (fun t => (t.drive.state, t.episode.current.isSome, t.episode.history.map (·.outcome),
        t.outputs.rideActive)) =
    some (.running, false, [some .restored], false) := by decide +kernel

/-- R69: the last completed bypass of the episode leads through PLAN to RECHARGE with a commit. -/
theorem test_feedback_leads_to_plan :
    reads (.feedbackSample 0 true)
      (let s := riding .bypass .bypassing .pending
       { s.setSlot 0 { s.slot 0 with
          contactor := { (s.slot 0).contactor with run := 2, runStart := 2900, sampledAt := 3000 } } with
         partTime := 3100 })
      (fun t => (t.phase, (t.slot 0).state, (t.slot 0).contactor.lastClose, t.sync,
        t.committed.map (·.fields.counts))) =
    some (some .recharge, .bypassed, some 29, 1, some { a := 1, b := 1, c := 1 }) := by decide +kernel

/-- R85: the window's expiry fails the episode with cause WINDOW and halts with 0x6001. -/
theorem test_windowExpiry :
    reads .windowExpiry { riding .recharge .bypassed .bypassed with partTime := 400000 }
      (fun t => (t.drive.state, t.drive.haltCause, t.episode.history.map (·.outcome), t.outputs)) =
    some (.halted, some 0x6001, [some (.failed .window 0x6001)],
      { brkDemand := true, rideActive := false, attn := true }) := by decide +kernel

/-- R129, R16: the first CONFIGURE makes the slots at positions 1 and 2 ACTIVE and the drive STOPPED. -/
theorem test_configure :
    reads (.configure 1 [1, 0, 2]) State.reset (fun t => (t.drive.state, t.outputs.brkDemand,
      [0, 1, 2, 9, 26].map fun i : Slot => (t.slot i).state)) =
    some (.stopped, false, [.active, .active, .absent, .active, .absent]) := by decide +kernel

/-- R54, R46: with no window enabled an enabled external line halts the drive with its code. -/
theorem test_extLineSample :
    reads (.extLineSample 1 2000) ({ running with partTime := 100 }.setLine 1 { enable := true })
      (fun t => (t.drive.state, t.drive.haltCause)) = some (.halted, some 0x3001) ∧
    reads (.extLineSample 1 800) ({ running with partTime := 100 }.setLine 1 { enable := true })
      (fun t => (t.drive.state, t.drive.haltCause)) = some (.running, none) := by decide +kernel

/-- R119, R73: on ticks alone the completion is taken at the part time of ramp beat n. -/
theorem test_ramp_completion_on_ticks :
    let s : State := { riding .magnetize .bypassed .bypassed with partTime := 99, mod := { rampPos := 800 } }
    s.tick.pending.take 2 = [.beat, .rampCompletion] ∧
    ((after .beat s.tick).bind (after .rampCompletion)).map (fun t => (t.phase, t.partTime,
      t.episode.handover.map (·.start))) = some (some .handover, 100, some 100) := by decide +kernel

/-- R11: a bypass that outlives its timeout leaves the slot STUCK. -/
theorem test_bypassTimeout :
    reads (.bypassTimeout 3) (State.setSlot 3
        { state := .bypassing, contactor := Contactor.driven {} .bypassing 0 60 }
        { stopped with partTime := 60000 })
      (fun t => ((t.slot 3).state, (t.slot 3).contactor.closeLine, t.notices.items.map (·.body))) =
    some (.stuck, false, [.cellState 3 .bypassing .stuck 0x4003]) := by decide +kernel

/-- A queued command runs, and with no command waiting the block takes a microsecond. -/
theorem test_step :
    (match step { State.reset with pending := [.configure 1 [1, 0, 2]] } with
      | .next t => some (t.drive.state, t.pending.length) | _ => none) = some (.stopped, 0) ∧
    (match step State.reset with | .next t => some (t.partTime, t.pending) | _ => none) = some (1, []) := by
  decide +kernel

/-! ## Witnesses: states and operands that meet the hypotheses of each statement -/

theorem reset_serves : State.reset.canServe := ⟨rfl, rfl, by decide⟩
theorem stopped_serves : stopped.canServe := ⟨rfl, rfl, by decide⟩
theorem running_serves : running.canServe := ⟨rfl, rfl, by decide⟩
theorem halted_serves : halted.canServe := ⟨rfl, rfl, by decide⟩
theorem riding_serves (p : EpisodePhase) (x : SlotState) (o : InvolvedOutcome) : (riding p x o).canServe :=
  ⟨rfl, rfl, Nat.zero_lt_succ 1⟩

theorem witness_StepRunsTheFrontCommand :
    { State.reset with pending := [.beat, .start 0 []] }.pending = .beat :: [.start 0 []] := rfl

theorem witness_PartTimeBringsTheEvents :
    State.reset.pending = [] ∧ State.reset.inReset = false ∧ { State.reset with inReset := true }.pending = [] ∧
    (riding .isolate .faulted .pending).episode.settle = some { start := 0, length := 5000 } ∧
    (riding .isolate .faulted .pending).episode.window = some { start := 0, length := 400000 } ∧
    (riding .handover .bypassed .bypassed).episode.handover = some { start := 0, length := 50000 } ∧
    running.drive.supervision = some { start := 0, length := 20000 } ∧ running.speed.gate = some gate0 ∧
    { running.link with rx := .assembling [] 0 }.rx = .assembling [] 0 ∧
    { running.link with tx := some { source := .reply, bytes := [0xC3], start := 0 } }.tx =
      some { source := .reply, bytes := [0xC3], start := 0 } ∧
    running.config.n ≠ none ∧ ((running.setLine 0 { enable := true }).line 0).enable = true ∧
    ((riding .bypass .bypassing .pending).slot 0).contactor.pulse =
      some { kind := .close, asserted := 0, timeout := 60, judge := false } ∧
    ((riding .bypass .bypassing .pending).slot 0).state = .bypassing ∧
    ¬(5000 ≤ ((4999 : PartTime) - 0).toNat) ∧ ¬(1000 < ((1000 : PartTime) - 0).toNat) ∧
    ¬(1000 * 60 ≤ ((59999 : PartTime) - 0).toNat) := by decide +kernel

theorem witness_EveryCommandCompletes : { State.reset with inReset := true }.inReset = true ∧
    (∀ mv rn, Instr.beat ≠ .deviceReset mv rn) ∧ ∀ mv rn a b, Instr.beat ≠ .resetEnd mv rn a b :=
  ⟨rfl, fun _ _ => nofun, fun _ _ _ _ => nofun⟩

theorem witness_DeviceResetRestoresEveryBlock :
    2950 ≤ 2950 ∧ true = true ∧ (2949 < 2950 ∨ true = false) ∧ (3300 < 2950 ∨ false = false) := by decide

theorem witness_ResetEndReadsTheRateStraps :
    { State.reset with inReset := true }.inReset = true ∧ 3050 < 3051 ∧ State.reset.inReset = false ∧
    3050 ≤ 3050 := by decide

/-- A state of each kind meets the invariants' conditions, and a step from it answers a next state. -/
theorem witness_QueuesStayBounded : LinkBounded halted ∧ NoticesBounded halted ∧
    (match step halted with | .next _ => true | _ => false) = true :=
  ⟨by unfold LinkBounded; decide, by unfold NoticesBounded; decide, by decide +kernel⟩

theorem witness_ProtectiveLinesFollowTheDriveState : LinesFollowDrive (riding .isolate .faulted .pending) ∧
    (match step (riding .isolate .faulted .pending) with | .next _ => true | _ => false) = true :=
  ⟨⟨by decide +kernel, by decide +kernel, by decide +kernel, by decide +kernel, by decide +kernel,
    by decide +kernel, by decide +kernel⟩, by decide +kernel⟩

theorem witness_SlotRecordsStayConsistent : SlotsConsistent (riding .bypass .bypassing .pending) ∧
    (match step (riding .bypass .bypassing .pending) with | .next _ => true | _ => false) = true := by
  refine ⟨?_, by decide +kernel⟩
  unfold SlotsConsistent ModeSound SlotRecord.Consistent
  decide +kernel

theorem witness_ConfigurationStaysInRange : ConfigSound stopped ∧
    (match step stopped with | .next _ => true | _ => false) = true := by
  refine ⟨⟨?_, ?_⟩, by decide +kernel⟩
  · unfold ModeSound; decide +kernel
  · constructor
    · intro n h
      have : n = 2 := by simpa [stopped, config2] using h.symm
      omega
    all_goals decide +kernel

theorem witness_PlanTableStaysSound : PlansSound section57 ∧
    (match step section57 with | .next _ => true | _ => false) = true := by
  refine ⟨?_, by decide +kernel⟩
  unfold PlansSound ModeSound PlanEntry.InRange
  decide +kernel

theorem witness_EpisodeRecordsStaySound : EpisodesSound (riding .magnetize .bypassed .bypassed) ∧
    (match step (riding .magnetize .bypassed .bypassed) with | .next _ => true | _ => false) = true := by
  refine ⟨⟨by decide +kernel, by decide +kernel, by decide +kernel, ?_, by decide +kernel, by decide +kernel,
    fun _ h => nomatch h⟩, by decide +kernel⟩
  intro e h
  have : e = record .magnetize .bypassed := by
    have h' : some (record .magnetize .bypassed) = some e := h
    exact (Option.some.inj h').symm
  subst this
  constructor <;> decide +kernel

theorem witness_AppliedMagnitudeNeverExceedsR : MagnitudeSound (riding .magnetize .bypassed .bypassed) ∧
    (match step (riding .magnetize .bypassed .bypassed) with | .next _ => true | _ => false) = true := by
  refine ⟨⟨by decide +kernel, by decide +kernel, by decide +kernel, ?_, ?_, ?_, by decide +kernel⟩,
    by decide +kernel⟩
  · intro r h
    have h' : (none : Option Reference) = some r := h
    cases h'
  · intro e c h hc
    have h' : some (record .magnetize .bypassed) = some e := h
    cases h'
    have h'' : some ({ fr := 3000, ut := 620, fCeil := 4605, reduced := false } : Capture) = some c := hc
    cases h''
    exact ⟨by decide +kernel, .inl rfl⟩
  · intro e h hc
    have h' : some (record .magnetize .bypassed) = some e := h
    cases h'
    exact absurd hc (by decide +kernel)

/-- A receiver in the given state. -/
def receiving (rx : Receiver) : State := { stopped with link := { rx := rx } }

theorem witness_ReceiverAssemblesFrames :
    (receiving .hunting).inReset = false ∧ (receiving .hunting).link.rx = .hunting ∧ (0 : Byte) ≠ 0xC3 ∧
    (receiving (.assembling [] 0)).link.rx = .assembling [] 0 ∧ (240 : Byte).toNat ≤ 240 ∧
    (receiving (.assembling (240 :: List.replicate 242 0) 0)).link.rx =
      .assembling (240 :: List.replicate 242 0) 0 ∧
    (List.replicate 242 (0 : Byte)).length < (240 : Byte).toNat + 3 ∧ 240 < (241 : Byte).toNat ∧
    (receiving (.assembling [0, 0x15, 9, 0] 0)).link.rx = .assembling [0, 0x15, 9, 0] 0 ∧
    (0 : Byte).toNat ≤ 240 ∧ [(0 : Byte)].length = (0 : Byte).toNat + 1 ∧
    ((byte2Of (crc16 [0, 0x15, 9])).take 1).drop 0 ++ [(byte2Of (crc16 [0, 0x15, 9]))[1]!] =
      byte2Of (crc16 [0, 0x15, 9]) ∧
    [(0 : Byte)].drop 0 ++ [1] ≠ byte2Of (crc16 [0, 0x15, 9]) := by decide +kernel

theorem witness_FramesAreJudgedOrAbandoned :
    (receiving (.assembling (0 :: 0x15 :: 9 :: [0]) 0)).link.rx = .assembling (0 :: 0x15 :: 9 :: [0]) 0 ∧
    (0 : Byte).toNat ≤ 240 ∧ [(0 : Byte)].length = (0 : Byte).toNat + 1 ∧
    (240 : Byte).toNat ≤ 240 ∧ (List.replicate 241 (0 : Byte)).length = (240 : Byte).toNat + 1 ∧
    ((byte2Of (crc16 (0 :: 0x15 :: 9 :: []))).take 1).drop 0 ++ [(byte2Of (crc16 (0 :: 0x15 :: 9 :: [])))[1]!] =
      byte2Of (crc16 (0 :: 0x15 :: 9 :: [])) ∧
    [(0 : Byte)].drop 0 ++ [1] ≠ byte2Of (crc16 (0 :: 0x15 :: 9 :: [])) ∧ 240 < (241 : Byte).toNat ∧
    1000 < ((1001 : PartTime) - 0).toNat := by decide +kernel

theorem witness_FrameBytesArriveAsTheRequest :
    (List.replicate 240 (0 : Byte)).length ≤ 240 ∧ (receiving .hunting).inReset = false ∧
    (receiving .hunting).link.rx = .hunting := by decide +kernel

/-- A reply waiting to be sent, and the state whose transmitter sends it. -/
def aReply : Reply := { kind := 0x15, tag := 0, answer := .ok [] }
def aRequest : Request := { kind := 0x15, tag := 1, payload := [] }
def sending (source : TxSource) (requests : List Request) (replies : List Reply) : State :=
  { stopped with
    partTime := 87
    link := { requests := requests, replies := replies,
              tx := some { source := source, bytes := [0xC3], start := 0 } } }

theorem witness_TransmitterSendsRefusalsFirst :
    stopped.inReset = false ∧ stopped.link.tx = none ∧ stopped.link.refusal = none ∧
    stopped.link.replies = [] ∧
    { stopped.link with refusal := some { kind := 1, tag := 2 } }.refusal = some { kind := 1, tag := 2 } ∧
    { stopped.link with replies := [aReply] }.replies = aReply :: [] ∧
    lineTime (sending .busy [] []).link.rate 1 ≤ ((sending .busy [] []).partTime - 0).toNat ∧
    (sending .reply [] [aReply]).link.replies = aReply :: [] ∧ (sending .reply [] [aReply]).link.requests = [] ∧
    (sending .reply [aRequest] [aReply, aReply]).link.replies = aReply :: [aReply] ∧ [aReply].length < 2 ∧
    (sending .reply [aRequest] [aReply, aReply]).link.requests = aRequest :: [] := by decide +kernel

/-- The reply queue full, with requests waiting and perhaps a refusal. -/
def full (n : Nat) (b : Option BusyRefusal) : State :=
  { stopped with link := { replies := [aReply, aReply], requests := List.replicate n aRequest, refusal := b } }

theorem witness_RequestsAreQueuedOrServed :
    (Instr.readStatus 1 []).request = some { kind := 0x15, tag := 1, payload := [] } ∧
    (List.replicate 240 (0 : Byte)).length ≤ 240 ∧ (full 3 none).inReset = false ∧
    (full 3 none).link.replies.length = 2 ∧ (full 3 none).link.requests.length < 4 ∧
    (full 4 none).link.requests.length = 4 ∧ (full 4 none).link.refusal = none ∧
    (full 4 (some { kind := 1, tag := 1 })).link.refusal.isSome = true ∧
    kindOf 0x17 = none ∧ kindOf 0 = none ∧ kindOf 0x16 = some .linkReset ∧ kindOf 0x01 = some .configure ∧
    itemsOf .start [1] = none ∧ itemsOf .start [] = some [] ∧ 0x16 < (0x17 : Byte).toNat := by decide +kernel

theorem witness_RefusedRequestChangesNothing :
    (serveKind .start [] State.reset).2 = .refused .state := by decide +kernel

theorem witness_PayloadItemsRoundTrip : itemsFit .planPut [(6, 65535), (1, 255), (4, 0)] := by
  refine ⟨by decide, ?_⟩
  intro x hx
  simp only [List.mem_cons, List.not_mem_nil, or_false] at hx
  rcases hx with rfl | rfl | rfl
  · exact ⟨2, by decide, by decide⟩
  · exact ⟨1, by decide, by decide⟩
  · exact ⟨2, by decide, by decide⟩

theorem witness_LinkResetClearsTheLinkSide : stopped.canServe := stopped_serves

theorem witness_ReadsAnswerAndChangeNothing : (riding .bypass .bypassing .pending).canServe ∧
    (riding .bypass .bypassing .pending).episode.current = some (record .bypass .pending) ∧ 31 ≤ 31 ∧
    { stopped.episode with history := List.replicate 4 (record .bypass .pending) }.history[3]? =
      some (record .bypass .pending) ∧ 3 < 4 ∧ 1 ≤ 4 ∧ stopped.episode.history.length < 1 ∧
    stopped.episode.current = none ∧ (0x0F : Byte).toNat / 16 = 0 ∧ 3 < (0x41 : Byte).toNat / 16 ∧
    (0x10 : Byte).toNat % 16 = 0 ∧ 9 < (0x1A : Byte).toNat % 16 ∧ 8 < (9 : Byte).toNat ∧
    (9 : Byte).toNat < 16 ∧ 19 < (20 : Byte).toNat ∧ 31 < (32 : Byte).toNat ∧ 4 < (5 : Byte).toNat :=
  ⟨riding_serves _ _ _, by decide +kernel⟩

/-- A state with a number of queued notices. -/
def noticed (n : Nat) : State :=
  { stopped with
    notices := { items := List.replicate n { time := 0, body := .driveState .stopped 0 }, mask := 0b111110 } }

theorem witness_OfferedNoticeIsQueuedOrCounted :
    (noticed 0).notices.mask.getLsbD (noticeKind (.cellState 0 .active .parked 0) - 1) = false ∧
    (noticed 0).notices.mask.getLsbD (noticeKind (.driveState .halted 0) - 1) = true ∧
    (noticed 15).notices.items.length < 16 ∧ 16 ≤ (noticed 16).notices.items.length := by decide +kernel

theorem witness_TakeNoticesGivesTheOldest : (noticed 9).canServe ∧ carries .takeNotices [] [] ∧
    carries .takeNotices [1, 1] [(1, 1)] ∧ carries .takeNotices [1, 8] [(1, 8)] ∧
    carries .takeNotices [1, 0] [(1, 0)] ∧ carries .takeNotices [1, 9] [(1, 9)] ∧
    (field [] 1).getD 8 = 8 ∧ (field [(1, 1)] 1).getD 8 = 1 ∧ field [(1, 0)] 1 = some 0 ∧
    field [(1, 9)] 1 = some 9 ∧ (0 = 0 ∨ 8 < 0) ∧ 8 < 9 :=
  ⟨⟨rfl, rfl, by decide⟩, by unfold carries; decide +kernel⟩

theorem witness_NoticeMaskSetsThenClears : stopped.canServe ∧
    (carries .noticeMask [1, 63, 2, 63, 3, 16] [(1, 63), (2, 63), (3, 16)] ∧
      (∀ v, field [(1, 63), (2, 63), (3, 16)] 1 = some v → v < 64) ∧
      (∀ v, field [(1, 63), (2, 63), (3, 16)] 2 = some v → v < 64) ∧
      ∀ v, field [(1, 63), (2, 63), (3, 16)] 3 = some v → 1 ≤ v ∧ v ≤ 16) ∧
    (carries .noticeMask [1, 64] [(1, 64)] ∧ field [(1, 64)] 1 = some 64) ∧
    (carries .noticeMask [2, 64] [(2, 64)] ∧ field [(2, 64)] 1 = none ∧ field [(2, 64)] 2 = some 64) ∧
    carries .noticeMask [3, 0] [(3, 0)] ∧ field [(3, 0)] 3 = some 0 ∧
    carries .noticeMask [3, 17] [(3, 17)] ∧ field [(3, 17)] 3 = some 17 ∧ 16 < 17 := by
  refine ⟨stopped_serves, ⟨by unfold carries; decide +kernel, ?_, ?_, ?_⟩, by unfold carries; decide +kernel⟩
  all_goals
    intro v h
    have := field_mem h
    simp only [List.mem_cons, Prod.mk.injEq, List.not_mem_nil, or_false] at this
    omega

theorem witness_AcceptedConfigureWritesItsFields :
    (State.reset.canServe ∧ carries .configure [1, 0, 2] [(1, 2)] ∧
      (∀ id v, field [(1, 2)] id = some v →
        paramOk ((configAfter [(1, 2)] State.reset.config).n.getD 0) id v = true) ∧
      field [(1, 2)] 4 = none ∧ field [(1, 2)] 5 = none ∧ field [(1, 2)] 19 = none ∧
      field [(1, 2)] 20 = none ∧ State.reset.drive.state = .unconfigured ∧ field [(1, 2)] 1 = some 2) ∧
    (stopped.canServe ∧ carries .configure [4, 0x05, 0x00, 5, 0x05, 0x14] [(4, 1280), (5, 1300)] ∧
      (∀ id v, field [(4, 1280), (5, 1300)] id = some v →
        paramOk ((configAfter [(4, 1280), (5, 1300)] stopped.config).n.getD 0) id v = true) ∧
      (configAfter [(4, 1280), (5, 1300)] stopped.config).vTrip + 20 ≤
        (configAfter [(4, 1280), (5, 1300)] stopped.config).vRelease ∧
      stopped.drive.state = .stopped ∧ field [(4, 1280), (5, 1300)] 1 = none) :=
  ⟨⟨reset_serves, by unfold carries; decide +kernel,
      field_of_items (P := fun id v => paramOk _ id v = true) (by decide +kernel), by decide +kernel⟩,
    stopped_serves, by unfold carries; decide +kernel,
      field_of_items (P := fun id v => paramOk _ id v = true) (by decide +kernel), by decide +kernel⟩

theorem witness_ConfigureIsRefusedInOrder :
    running.drive.state = .running ∧
    (State.reset.drive.state = .unconfigured ∧ carries .configure [] [] ∧ field [] 1 = none) ∧
    (stopped.drive.state = .stopped ∧ carries .configure [1, 0, 3] [(1, 3)] ∧ field [(1, 3)] 1 = some 3 ∧
      stopped.config.n ≠ some 3) ∧
    (carries .configure [2, 0x13, 0x87] [(2, 4999)] ∧ field [(2, 4999)] 2 = some 4999 ∧
      paramOk ((configAfter [(2, 4999)] stopped.config).n.getD 0) 2 4999 = false ∧
      ∀ j u, j < 2 → field [(2, 4999)] j = some u →
        paramOk ((configAfter [(2, 4999)] stopped.config).n.getD 0) j u = true) ∧
    (carries .configure [4, 0x03, 0x21] [(4, 801)] ∧
      (configAfter [(4, 801)] stopped.config).vRelease < (configAfter [(4, 801)] stopped.config).vTrip + 20 ∧
      field [(4, 801)] 4 ≠ none ∧
      ∀ id v, field [(4, 801)] id = some v →
        paramOk ((configAfter [(4, 801)] stopped.config).n.getD 0) id v = true) ∧
    (carries .configure [5, 0x02, 0xCF] [(5, 719)] ∧ field [(5, 719)] 4 = none ∧ field [(5, 719)] 5 ≠ none ∧
      (configAfter [(5, 719)] stopped.config).vRelease < (configAfter [(5, 719)] stopped.config).vTrip + 20) ∧
    (carries .configure [19, 0x16, 0x76] [(19, 5750)] ∧ field [(19, 5750)] 19 ≠ none ∧
      (configAfter [(19, 5750)] stopped.config).fOver ≤ (configAfter [(19, 5750)] stopped.config).fLimit) ∧
    (carries .configure [20, 0x17, 0x70] [(20, 6000)] ∧ field [(20, 6000)] 19 = none ∧
      field [(20, 6000)] 20 ≠ none ∧
      (configAfter [(20, 6000)] stopped.config).fOver ≤ (configAfter [(20, 6000)] stopped.config).fLimit) := by
  unfold carries
  refine ⟨rfl, by decide +kernel, by decide +kernel, ⟨by decide +kernel, by decide +kernel,
    by decide +kernel, ?_⟩, ⟨by decide +kernel, by decide +kernel, by decide +kernel,
      field_of_items (P := fun id v => paramOk _ id v = true) (by decide +kernel)⟩, by decide +kernel,
    by decide +kernel, by decide +kernel⟩
  intro j u hj h
  have := field_mem h
  simp only [List.mem_cons, Prod.mk.injEq, List.not_mem_nil, or_false] at this
  omega

theorem witness_StartCommitsAndRuns : stopped.canServe ∧ running.drive.state ≠ .stopped ∧
    stopped.drive.state = .stopped ∧
    (∃ i, (stopped.setSlot 0 { state := .stuck }).configured i = true ∧
      ((stopped.setSlot 0 { state := .stuck }).slot i).state = .stuck) ∧
    (¬∃ i, stopped.configured i = true ∧ ((stopped.slot i).state = .stuck ∨ (stopped.slot i).state = .faulted ∨
      (stopped.slot i).state = .bypassing ∨ (stopped.slot i).state = .returning)) ∧
    (∀ x, x < 3 → stopped.config.minCells ≤ stopped.countPhase SlotState.candidate x) ∧
    ¬∀ x, x < 3 → 3 ≤ stopped.countPhase SlotState.candidate x :=
  ⟨stopped_serves, by decide +kernel⟩

theorem witness_StopActsByDriveState : halted.drive.state = .halted ∧ stopped.drive.state = .stopped ∧
    running.drive.state = .running ∧ (riding .capture .bypassed .bypassed).drive.state = .riding ∧
    (riding .capture .bypassed .bypassed).episode.current.isSome = true ∧
    (riding .capture .bypassed .bypassed).canServe :=
  ⟨rfl, rfl, rfl, rfl, rfl, riding_serves _ _ _⟩

theorem witness_ClearHaltNeedsAValidStandstill : halted.canServe ∧ stopped.drive.state ≠ .halted ∧
    halted.drive.state = .halted ∧ halted.speed.last.valid = false ∧
    ({ f := 1, valid := true } : SpeedResult).f ≠ 0 ∧ ({ f := 0, valid := true } : SpeedResult).f = 0 ∧
    ({ f := 0, valid := true } : SpeedResult).valid = true :=
  ⟨halted_serves, by decide +kernel⟩

theorem witness_ReferenceIsClampedAndApplied : running.canServe ∧ running.drive.state = .running ∧
    stopped.drive.state ≠ .running ∧ carries .reference [] [] ∧ field [] 1 = none ∧
    (carries .reference [1, 0, 5] [(1, 5)] ∧ field [(1, 5)] 1 ≠ none ∧ field [(1, 5)] 2 = none) ∧
    (carries .reference [1, 4, 0xB1, 2, 0, 0] [(1, 1201), (2, 0)] ∧ 1200 < 1201) ∧
    (carries .reference [1, 4, 0xB0, 2, 0x80, 0] [(1, 1200), (2, 0x8000)] ∧
      field [(1, 1200), (2, 0x8000)] 2 = some 0x8000 ∧ 1200 ≤ 1200) ∧
    carries .reference [1, 4, 0xB0, 2, 0x80, 1] [(1, 1200), (2, 0x8001)] ∧ 0x8001 ≠ 0x8000 ∧
    (-32767 : Int) = (if 0x8001 < 0x8000 then ((0x8001 : Nat) : Int) else ((0x8001 : Nat) : Int) - 0x10000) :=
  ⟨running_serves, by unfold carries; decide +kernel⟩

theorem witness_ReferenceInHandoverRestores : (riding .handover .bypassed .bypassed).canServe ∧
    carries .reference [1, 4, 0xB0, 2, 0x7F, 0xFF] [(1, 1200), (2, 0x7FFF)] ∧
    (riding .handover .bypassed .bypassed).episode.current = some (record .handover .bypassed) ∧
    (record .handover .bypassed).phase = .handover ∧ field [(1, 1200), (2, 0x7FFF)] 1 = some 1200 ∧
    field [(1, 1200), (2, 0x7FFF)] 2 = some 0x7FFF ∧ 1200 ≤ 1200 ∧ 0x7FFF ≠ 0x8000 :=
  ⟨riding_serves _ _ _, by unfold carries; decide +kernel⟩

theorem witness_HaltsActByDriveState : running.drive.state = .running ∧ stopped.drive.state = .stopped ∧
    halted.drive.state = .halted ∧ (riding .bypass .bypassing .pending).drive.state = .riding ∧
    { running with partTime := 20000 }.inReset = false ∧
    running.drive.supervision = some { start := 0, length := 20000 } ∧
    20000 ≤ ((20000 : PartTime) - 0).toNat ∧ running.canServe ∧
    carries .reference [1, 0x04, 0xB0, 2, 0, 0] [(1, 1200), (2, 0)] ∧ 0 < running.config.supervision ∧
    field [(1, 1200), (2, 0)] 1 = some 1200 ∧ field [(1, 1200), (2, 0)] 2 = some 0 := by
  unfold State.canServe carries; decide +kernel

theorem witness_BypassCellStartsTheBypass : stopped.canServe ∧ 9 < (0x1A : Byte).toNat % 16 ∧
    (0x0F : Byte).toNat / 16 = 0 ∧ 3 < (0x41 : Byte).toNat / 16 ∧ (0x10 : Byte).toNat % 16 = 0 ∧
    slotOfByte 0x39 = some 26 ∧ ¬(running.drive.state = .stopped ∨ running.drive.state = .halted) ∧
    (stopped.slot 2).state = .absent ∧ (stopped.slot 0).state = .active ∧
    ((stopped.setSlot 0 { state := .bypassed }).slot 0).state = .bypassed :=
  ⟨stopped_serves, by decide +kernel⟩

theorem witness_ReturnCellStartsTheReturn : stopped.canServe ∧ (0x10 : Byte).toNat % 16 = 0 ∧
    (0x0F : Byte).toNat / 16 = 0 ∧ 3 < (0x41 : Byte).toNat / 16 ∧ 9 < (0x1A : Byte).toNat % 16 ∧
    halted.drive.state ≠ .stopped ∧ (stopped.slot 26).state = .absent ∧ (stopped.slot 0).state = .active ∧
    ((stopped.setSlot 0 { state := .stuck }).slot 0).state = .stuck ∧
    ¬(((stopped.setSlot 0 { state := .stuck }).slot 0).link.up = true ∧
      ((stopped.setSlot 0 { state := .stuck }).slot 0).link.code = 0) ∧
    ({ up := true } : LinkFacts).up = true ∧ ({ up := true } : LinkFacts).code = 0 :=
  ⟨stopped_serves, by decide +kernel⟩

theorem witness_FeedbackIsDebounced :
    100 ≤ ((100 : PartTime) - (stopped.slot 0).contactor.sampledAt).toNat ∧
    (stopped.slot 0).contactor.pulse = none ∧ (stopped.slot 0).contactor.feedback = .opened ∧
    (stopped.slot 0).contactor.run < 2 ∧ ({ run := 1 } : Contactor).run < 2 ∧
    2 ≤ ({ run := 2 } : Contactor).run ∧ (stopped.slot 2).state = .absent ∧ (stopped.slot 0).state = .active ∧
    ({ state := .bypassed, contactor := { feedback := .closed, run := 2 } } : SlotRecord).contactor.feedback =
      .closed ∧
    ({ state := .bypassed, contactor := { feedback := .opened, run := 2 } } : SlotRecord).contactor.feedback ≠
      .closed := by decide +kernel

/-- Slot A1 BYPASSING or RETURNING, its feedback and run as given. -/
def pulsing (x : SlotState) (y : Feedback) (run : Nat) : State :=
  State.setSlot 0
    { state := x, contactor := { Contactor.driven { feedback := y } x 0 60 with run := run } }
    { stopped with partTime := 100 }

theorem witness_FeedbackCompletesPulseOperations :
    100 ≤ ((pulsing .bypassing .opened 2).partTime -
      ((pulsing .bypassing .opened 2).slot 0).contactor.sampledAt).toNat ∧
    ((pulsing .bypassing .opened 2).slot 0).contactor.pulse =
      some { kind := .close, asserted := 0, timeout := 60, judge := false } ∧
    ((pulsing .bypassing .opened 2).slot 0).contactor.run = 2 ∧
    ((pulsing .bypassing .opened 1).slot 0).contactor.run = 1 ∧
    ((pulsing .bypassing .opened 2).slot 0).state = .bypassing ∧
    ((pulsing .returning .closed 2).slot 0).contactor.pulse =
      some { kind := .opening, asserted := 0, timeout := 60, judge := false } ∧
    ((pulsing .bypassing .closed 0).slot 0).contactor.pulse =
      some { kind := .close, asserted := 0, timeout := 60, judge := true } ∧
    ((pulsing .bypassing .closed 2).slot 0).contactor.feedback = .closed ∧
    ((pulsing .returning .opened 0).slot 0).contactor.pulse =
      some { kind := .opening, asserted := 0, timeout := 60, judge := true } := by decide +kernel

theorem witness_PulseTimeoutsStickTheSlot :
    ((pulsing .bypassing .opened 0).slot 0).contactor.pulse.map (·.timeout) = some 60 ∧
    1000 * 60 ≤ ((60000 : PartTime) - 0).toNat ∧ ((pulsing .returning .closed 0).slot 0).state = .returning ∧
    ((0x4001 : Code) = 0x4001 ∨ (0x4001 : Code) = 0x4002 ∨ (0x4001 : Code) = 0x4003) ∧
    (0x4001 : Code) ≠ 0x4003 ∧ stopped.drive.state = .stopped ∧ running.drive.state = .running ∧
    (riding .bypass .bypassing .pending).drive.state = .riding := by decide +kernel

/-- A table with windows 2 and 7 enabled on the family of cell codes. -/
def routed : State :=
  { running with
    windows := ((running.windows.set 2
      { enabled := true, value := 0x1005, mask := 0xFFFF, action := .ride, kind := .level, q := 2 }).set 7
      { enabled := true, value := 0x1000, mask := 0xF000, action := .note, kind := .latched, q := 1 }).set 0
      { enabled := true, value := 0x2000, mask := 0xF000, action := .ignore } }

theorem witness_LowestEnabledWindowGivesTheRoute :
    ((routed.windows[2]).enabled = true ∧
      (0x1005 : Code) &&& (routed.windows[2]).mask = (routed.windows[2]).value) ∧
    (∀ j : Fin 8, j < 2 → ¬((routed.windows[j]).enabled = true ∧
      (0x1005 : Code) &&& (routed.windows[j]).mask = (routed.windows[j]).value)) ∧
    ∀ k : Fin 8, ¬((routed.windows[k]).enabled = true ∧
      (0x3000 : Code) &&& (routed.windows[k]).mask = (routed.windows[k]).value) := by decide +kernel

theorem witness_PresentationsBuildToQualification :
    let p : PendingFault :=
      { code := 0x1005, route := 2, kind := .level, action := .ride, q := 2, count := 1, firstSeen := 0 }
    p.kind = .level ∧ p.q ≤ p.count + 1 ∧ ({ p with q := 4 }).count + 1 < ({ p with q := 4 }).q ∧
    (running.facts (.slot 0)).pending = none ∧ (routed.routeFor 0x2000 0).action = .ignore ∧
    (routed.routeFor 0x1006 0).action ≠ .ignore ∧ (routed.routeFor 0x1006 0).kind = .latched ∧
    (routed.routeFor 0x1005 0).kind = .level ∧ 1 < (routed.routeFor 0x1005 0).q := by decide +kernel

theorem witness_QualificationsAreRecordedAndActedOn :
    (running.facts (.slot 0)).noted ≠ some 0x1005 ∧ ({ noted := some 0x1005 } : FaultFacts).noted = some 0x1005 ∧
    halted.drive.state = .halted ∧ running.drive.state = .running ∧
    (riding .bypass .bypassing .pending).drive.state = .riding ∧
    ((riding .bypass .bypassing .pending).slot 0).fault.last =
      some { code := 0x1005, action := .ride, time := 0 } := by decide +kernel

/-- The items of a ROUTE_SET with a Q and a match. -/
def routeItems (index value q : Nat) : Items :=
  [(1, index), (2, 1), (3, value), (4, 0xF000), (5, 3), (6, 1), (7, q)]

theorem witness_RouteSetWritesOneWindow : stopped.canServe ∧
    carries .routeSet (payloadOf .routeSet (routeItems 7 0x1000 16)) (routeItems 7 0x1000 16) ∧
    (∀ id, 1 ≤ id → id ≤ 7 → field (routeItems 7 0x1000 16) id ≠ none) ∧
    carries .routeSet [1, 0] [(1, 0)] ∧ field [(1, 0)] 2 = none ∧
    (∀ j, 1 ≤ j → j < 2 → field [(1, 0)] j ≠ none) ∧
    carries .routeSet (payloadOf .routeSet (routeItems 8 0x1000 16)) (routeItems 8 0x1000 16) ∧
    field (routeItems 8 0x1000 16) 1 = some 8 ∧ ¬(8 < 8) ∧
    carries .routeSet (payloadOf .routeSet (routeItems 7 0x1001 16)) (routeItems 7 0x1001 16) ∧
    (0x1001 : Code) &&& ~~~(0xF000 : Code) ≠ 0 ∧ (0x1000 : Code) &&& ~~~(0xF000 : Code) = 0 ∧
    (riding .bypass .bypassing .pending).drive.state = .riding := by
  refine ⟨stopped_serves, by unfold carries; decide +kernel, ?_, by unfold carries; decide +kernel,
    by decide +kernel, ?_, by unfold carries; decide +kernel⟩
  · intro id h1 h7
    interval_cases id <;> decide +kernel
  · intro j h1 h2
    interval_cases j
    decide +kernel

theorem witness_ExtSetChangesOneLine : stopped.canServe ∧ carries .extSet [] [] ∧ field [] 1 = none ∧
    carries .extSet [1, 4] [(1, 4)] ∧ field [(1, 4)] 1 = some 4 ∧ 3 < 4 ∧
    carries .extSet [1, 3, 2, 2] [(1, 3), (2, 2)] ∧ field [(1, 3), (2, 2)] 2 = some 2 ∧
    carries .extSet [1, 3, 2, 1, 3, 2] [(1, 3), (2, 1), (3, 2)] ∧ field [(1, 3), (2, 1), (3, 2)] 3 = some 2 ∧
    carries .extSet [1, 3, 2, 1, 3, 1] [(1, 3), (2, 1), (3, 1)] ∧
    field [(1, 3), (2, 1), (3, 1)] 1 = some (3 : ExtLine).val ∧ field [(1, 3), (2, 1), (3, 1)] 2 = some 1 ∧
    field [(1, 3), (2, 1), (3, 1)] 3 = some 1 :=
  ⟨stopped_serves, by unfold carries; decide +kernel⟩

theorem witness_EnabledLinesAreSampled :
    let s := { running with partTime := 100 }.setLine 3 { enable := true, polarity := .activeLow }
    s.inReset = false ∧ s.config.n ≠ none ∧ (s.line 3).enable = true ∧ (s.line 0).enable = false ∧
    100 ≤ (s.partTime - (s.line 3).sampledAt).toNat ∧
    false = decide ((s.line 3).polarity = .activeHigh) ∧ true = decide ((s.line 3).polarity = .activeLow) ∧
    2000 ≤ 2000 ∧ ¬(2000 ≤ 800) ∧ ¬(2000 ≤ 1999) ∧ ¬(1999 ≤ 800) ∧ ¬(2000 ≤ 801) ∧ ¬(801 ≤ 800) := by
  decide +kernel

/-- The items of a PLAN_PUT of the entry (6, 5, 6) with an r. -/
def planItems (a r : Nat) : Items := [(1, a), (2, 5), (3, 6), (4, 3599), (5, 3599), (6, r)]

/-- A table of 32 entries that holds no (6, 5, 6), with N = 6. -/
def fullTable : State :=
  { section57 with
    plans := (List.range 32).map fun i =>
      { key := { a := i / 6 + 1, b := 6, c := i % 6 + 1 }, lagB := 0, lagC := 0, r := 1000 } }

theorem witness_PlanPutEditsTheTable : section57.canServe ∧ fullTable.canServe ∧ PlansSound section57 ∧
    PlansSound fullTable ∧
    carries .planPut (payloadOf .planPut (planItems 6 833)) (planItems 6 833) ∧
    (∀ id, 1 ≤ id → id ≤ 6 → field (planItems 6 833) id ≠ none) ∧ 1000 * min 6 (min 5 6) / section57.n ≤ 833 ∧
    fullTable.plans.length = 32 ∧ (¬∃ f ∈ fullTable.plans, f.key = { a := 6, b := 5, c := 6 }) ∧
    (∃ f ∈ section57.plans, f.key = { a := 6, b := 5, c := 6 }) ∧ section57.plans.length < 32 ∧
    carries .planPut (payloadOf .planPut (planItems 7 833)) (planItems 7 833) ∧
    field (planItems 7 833) 1 = some 7 ∧ ¬(7 ≤ section57.n) ∧
    carries .planPut (payloadOf .planPut (planItems 6 832)) (planItems 6 832) ∧
    carries .planPut [1, 6] [(1, 6)] ∧ field [(1, 6)] 2 = none ∧
    State.reset.drive.state ≠ .stopped := by
  refine ⟨⟨rfl, rfl, by decide⟩, ⟨rfl, rfl, by decide⟩, witness_PlanTableStaysSound.1, ?_,
    by unfold carries; decide +kernel, ?_, by decide +kernel, by decide +kernel, by decide +kernel,
    by decide +kernel, by decide +kernel, by unfold carries; decide +kernel, by decide +kernel,
    by decide +kernel, by unfold carries; decide +kernel, by unfold carries; decide +kernel,
    by decide +kernel, by decide +kernel⟩
  · unfold PlansSound ModeSound PlanEntry.InRange
    decide +kernel
  · intro id h1 h6
    interval_cases id <;> decide +kernel

theorem witness_PlanDropAndClearRemoveEntries : section57.canServe ∧
    carries .planDrop [1, 6, 2, 5, 3, 6] [(1, 6), (2, 5), (3, 6)] ∧
    (∀ id, 1 ≤ id → id ≤ 3 → field [(1, 6), (2, 5), (3, 6)] id ≠ none) ∧
    (∀ id v, field [(1, 6), (2, 5), (3, 6)] id = some v → 1 ≤ v ∧ v ≤ 9) ∧
    (∃ e ∈ section57.plans, e.key = { a := 6, b := 5, c := 6 }) ∧ PlansSound section57 ∧
    carries .planDrop [1, 9, 2, 9, 3, 9] [(1, 9), (2, 9), (3, 9)] ∧
    (∀ e ∈ section57.plans, e.key ≠ { a := 9, b := 9, c := 9 }) ∧
    carries .planDrop [1, 10, 2, 1, 3, 1] [(1, 10), (2, 1), (3, 1)] ∧ 9 < 10 ∧
    carries .planDrop [2, 1] [(2, 1)] ∧ field [(2, 1)] 1 = none ∧ section57.drive.state ≠ .riding ∧
    (riding .bypass .bypassing .pending).drive.state = .riding := by
  refine ⟨⟨rfl, rfl, by decide⟩, by unfold carries; decide +kernel, ?_,
    field_of_items (P := fun _ v => 1 ≤ v ∧ v ≤ 9) (by decide +kernel), by decide +kernel,
    witness_PlanTableStaysSound.1, by unfold carries; decide +kernel⟩
  intro id h1 h3
  interval_cases id <;> decide +kernel

/-- On (6, 5, 5) the table of section 5.7 misses; with C2 ACTIVE its counts hit. -/
theorem witness_CommitArrangesTheCandidates : PlansSound section57 ∧
    (∀ e ∈ section57.plans, e.key ≠ section57.candidates) ∧
    ∃ e ∈ section57.plans, e.key = (section57.setSlot 19 { state := .active }).candidates :=
  ⟨witness_PlanTableStaysSound.1, by decide +kernel⟩

theorem witness_CarrierOffsetsAreDistinct : ConfigInRange stopped.config ∧
    (stopped.commit.slot 0).state = .active ∧ (0 : Slot) < 1 ∧ (1 : Slot).val / 9 = (0 : Slot).val / 9 ∧
    (stopped.commit.slot 1).state = .active :=
  ⟨witness_ConfigurationStaysInRange.1.2, by decide +kernel⟩

theorem witness_BeatSendsCommandFrames :
    State.reset.drive.state = .unconfigured ∧ running.drive.reference = none ∧
    (riding .magnetize .bypassed .bypassed).episode.current = some (record .magnetize .bypassed) ∧
    (record .magnetize .bypassed).capture = some { fr := 3000, ut := 620, fCeil := 4605, reduced := false } ∧
    (record .handover .bypassed).phase = .handover ∧ (record .capture .bypassed).phase ≠ .magnetize ∧
    (record .capture .bypassed).phase ≠ .handover ∧ running.inReset = false ∧
    100 ≤ ((100 : PartTime) - running.beatAt).toNat := by decide +kernel

/-- Slot A1 waiting for the answer of a beat, with characters of a group held. -/
def awaitedWith (g : List Byte) (s : State) : State :=
  s.setSlot 0 { s.slot 0 with link := { (s.slot 0).link with awaiting := true, group := g } }

/-- Slot A1 waiting for the answer of a beat. -/
def awaited (s : State) : State := awaitedWith [] s

theorem witness_GoodStatusFramesAreTaken :
    (2047 : Nat) ≤ 2047 ∧ 0xFFF ≤ 0xFFF ∧ 3 ≤ 3 ∧ reportOf [0, 0, 0, 0, 4, 0] = none ∧
    crc8 [7, 0xFF, 15, 0xFF, 3] = 0x61 ∧ reportOf [7, 0xFF, 15, 0xFF, 3, 0xA5] = none ∧
    reportOf [7, 0xFF, 15, 0xFF, 3, 0x61] = some { bus := 2047, code := 0xFFF, echo := 3 } ∧
    [({ bus := 2048, code := 0, echo := 0 } : CellReport), { bus := 0, code := 0x1000, echo := 0 },
      { bus := 0, code := 0, echo := 4 }].map (fun r => reportOf (reportBytes r)) = [none, none, none] ∧
    ([] : List Byte).length ≠ 6 ∧
    reportOf (reportBytes { bus := 2047, code := 0xFFF, echo := 3 }) =
      some { bus := 2047, code := 0xFFF, echo := 3 } ∧
    (awaited running).configured 0 = true ∧ ((awaited running).slot 0).link.awaiting = true ∧
    ((awaited running).slot 0).state = .active ∧
    ((awaited (riding .recharge .bypassed .bypassed)).slot 0).state = .bypassed ∧
    ((awaitedWith [7, 0xFF, 15, 0xFF, 3] running).slot 0).link.group ++ [0xA5] = [7, 0xFF, 15, 0xFF, 3, 0xA5] ∧
    [(7 : Byte), 0xFF, 15, 0xFF, 3, 0xA5].length = 6 ∧ [(7 : Byte), 0xFF, 15, 0xFF, 3].length < 6 ∧
    (awaited running).configured 2 = false ∧ (running.slot 0).link.awaiting = false := by decide +kernel

theorem witness_MissingAnswersAreCounted :
    (awaited running).configured 0 = true ∧ ((awaited running).slot 0).link.awaiting = true ∧
    ((awaited running).slot 0).state = .active ∧
    ((awaited (riding .recharge .bypassed .bypassed)).slot 0).state = .bypassed ∧
    running.config.linkLoss ≤ min 255 (3 + 1) ∧ min 255 (2 + 1) < running.config.linkLoss ∧
    (running.slot 0).link.owed = 0 ∧ (running.slot 0).link.awaiting = false := by decide +kernel

/-- The drive RUNNING with slot A1 FAULTED. -/
def faulted (settle : Nat) : State :=
  State.setSlot 0
    { state := .faulted, fault := { last := some { code := 0x1005, action := .ride, time := 0 }, count := 1 } }
    { running with config := { config2 with settle := settle } }

theorem witness_EpisodeOpensInIsolate : (faulted 1).drive.state = .running ∧ (faulted 1).config.settle ≠ 0 ∧
    (faulted 0).config.settle = 0 ∧ ((faulted 0).slot 0).state = .faulted ∧
    ((faulted 0).slot 0).fault.last = some { code := 0x1005, action := .ride, time := 0 } := by decide +kernel

theorem witness_BypassesLeadToThePlan :
    let s := { riding .isolate .faulted .pending with partTime := 5000 }
    s.inReset = false ∧ s.episode.current = some (record .isolate .pending) ∧
    (record .isolate .pending).phase = .isolate ∧ s.episode.settle = some { start := 0, length := 5000 } ∧
    5000 ≤ (s.partTime - 0).toNat ∧ (∃ v ∈ (record .isolate .pending).involved, v.outcome ≠ .bypassed) ∧
    (record .bypass .bypassed).phase = .bypass ∧
    (∀ v ∈ (record .bypass .bypassed).involved, v.outcome = .bypassed) ∧
    (∃ x, x < 3 ∧ (riding .bypass .bypassed .bypassed).countPhase SlotState.candidate x < 2) ∧
    ¬∃ x, x < 3 ∧ (riding .bypass .bypassed .bypassed).countPhase SlotState.candidate x < config2.minCells := by
  decide +kernel

theorem witness_RampCompletionHandsOver :
    (riding .magnetize .bypassed .bypassed).episode.current = some (record .magnetize .bypassed) ∧
    (record .magnetize .bypassed).phase = .magnetize ∧ (riding .magnetize .bypassed .bypassed).mod.rampDone = false ∧
    ({ rampDone := true } : ModGen).rampDone = true ∧
    (record .magnetize .bypassed).capture = some { fr := 3000, ut := 620, fCeil := 4605, reduced := false } ∧
    (record .capture .bypassed).phase ≠ .magnetize := by decide +kernel

theorem witness_FailuresCloseTheEpisode :
    (riding .recharge .bypassed .bypassed).episode.current = some (record .recharge .bypassed) ∧
    (riding .recharge .bypassed .bypassed).inReset = false ∧
    (riding .recharge .bypassed .bypassed).episode.window = some { start := 0, length := 400000 } ∧
    400000 ≤ ((400000 : PartTime) - 0).toNat ∧
    (riding .handover .bypassed .bypassed).episode.handover = some { start := 0, length := 50000 } ∧
    50000 ≤ ((50000 : PartTime) - 0).toNat := by decide +kernel

theorem witness_SecondFaultsAreListed :
    (record .isolate .pending).involved.length < config2.fMax ∧ 1 ≤ (record .isolate .pending).involved.length ∧
    (record .isolate .pending).phase = .isolate ∧ (record .bypass .pending).phase = .bypass ∧
    (record .recharge .bypassed).phase = .recharge ∧ (record .capture .bypassed).phase = .capture ∧
    (record .magnetize .bypassed).phase = .magnetize ∧ (record .handover .bypassed).phase = .handover ∧
    config2.settle ≠ 0 ∧ { config2 with settle := 0 }.settle = 0 ∧
    ((riding .bypass .bypassing .pending).slot 0).fault.last =
      some { code := 0x1005, action := .ride, time := 0 } := by decide +kernel

theorem witness_GateCompletionIsJudged :
    running.speed.gate = some gate0 ∧ 1000 * gate0.length ≤ ((10000 : PartTime) - gate0.start).toNat ∧
    { gate0 with illegal := 7 }.illegal < 8 ∧ ¬({ gate0 with illegal := 8 }.illegal < 8) ∧
    (Gate.result { gate0 with count := 2355 } 0).f = 5750 ∧ ¬(config2.fOver < 5750) ∧
    (Gate.result { gate0 with count := 2356 } 0).f = 5752 ∧ config2.fOver < 5752 ∧
    (riding .capture .bypassed .bypassed).episode.current = some (record .capture .bypassed) ∧
    ¬((record .capture .bypassed).fTrip.natAbs + config2.runaway < 3300) ∧
    (record .capture .bypassed).fTrip.natAbs + config2.runaway < 3301 := by decide +kernel

theorem witness_EncoderSamplesAreCounted :
    running.inReset = false ∧ running.speed.held = none ∧ State.reset.speed.gate = none ∧
    ({ held := some (true, true), gate := some gate0 } : SpeedUnit).held = some (true, true) ∧
    false = (!true) ∧ true = true := by decide +kernel

end Sys2Proof.Tests
end

section
/-! The slot records through every operation (R1, R4, R5, R16, R21, R22, R178). -/

namespace Sys2Proof.Machine

/-! ## What the condition rests on -/

theorem ModeSound.unconfigured_iff {s : State} (h : ModeSound s) :
    s.drive.state = .unconfigured ↔ s.config.n = none := h.1

theorem ModeSound.episode_open {s : State} (h : ModeSound s) :
    s.episode.current.isSome = decide (s.drive.state = .riding) := h.2

theorem SlotsConsistent.mode {s : State} (h : SlotsConsistent s) : ModeSound s := h.1

theorem SlotsConsistent.record {s : State} (h : SlotsConsistent s) (i : Slot) : (s.slot i).Consistent :=
  (h.2 i).1

theorem SlotsConsistent.absent_iff {s : State} (h : SlotsConsistent s) (i : Slot) :
    (s.slot i).state = .absent ↔ s.configured i = false := (h.2 i).2

/-- An episode that is open stands in RIDING. -/
theorem ModeSound.riding_of_current {s : State} (h : ModeSound s) {e : EpisodeRecord}
    (he : s.episode.current = some e) : s.drive.state = .riding := by
  simpa [he] using h.episode_open

/-- N stands in every drive state but UNCONFIGURED. -/
theorem ModeSound.n_ne_none {s : State} (h : ModeSound s) (hd : s.drive.state ≠ .unconfigured) :
    s.config.n ≠ none := fun hn => hd (h.unconfigured_iff.mpr hn)

/-- A drive state from STOPPED on with N in force, and an episode open exactly in RIDING. -/
theorem modeSound_of_configured {s : State} (hd : s.drive.state ≠ .unconfigured) (hn : s.config.n ≠ none)
    (he : s.episode.current.isSome = decide (s.drive.state = .riding)) : ModeSound s :=
  ⟨⟨fun h => absurd h hd, fun h => absurd h hn⟩, he⟩

/-- The condition on the mode depends on the drive state, N and whether an episode is open. -/
theorem ModeSound.congr {s t : State} (h : ModeSound s) (hdrive : t.drive.state = s.drive.state)
    (hn : t.config.n = s.config.n)
    (hopen : t.episode.current.isSome = s.episode.current.isSome) : ModeSound t := by
  simpa [ModeSound, hdrive, hn, hopen] using h

/-- Which slots are configured depends on N. -/
theorem State.configured_congr {s t : State} (h : t.config.n = s.config.n) (i : Slot) :
    t.configured i = s.configured i := by
  unfold State.configured State.n
  rw [h]

/-- The condition on the slots where the mode has changed and the slots and the configuration stand. -/
theorem SlotsConsistent.of_mode {s t : State} (h : SlotsConsistent s) (hmode : ModeSound t)
    (hslots : t.slots = s.slots := by simp) (hconfig : t.config = s.config := by simp) :
    SlotsConsistent t := by
  refine ⟨hmode, fun i => ?_⟩
  rw [State.slot_congr hslots i, State.configured_congr (s := s) (t := t) (by rw [hconfig]) i]
  exact h.2 i

/-- The condition depends on the slots, the configuration, the drive state and whether an episode is open. -/
theorem SlotsConsistent.congr {s t : State} (h : SlotsConsistent s) (hslots : t.slots = s.slots := by simp)
    (hconfig : t.config = s.config := by simp) (hdrive : t.drive.state = s.drive.state := by simp)
    (hopen : t.episode.current.isSome = s.episode.current.isSome := by simp) : SlotsConsistent t :=
  h.of_mode (h.mode.congr hdrive (by rw [hconfig]) hopen) hslots hconfig

/-- Every slot's record replaced by a consistent one in the same state. -/
theorem SlotsConsistent.of_slots {s t : State} (h : SlotsConsistent s)
    (hslot : ∀ i, (t.slot i).Consistent ∧ (t.slot i).state = (s.slot i).state)
    (hconfig : t.config = s.config := by simp) (hdrive : t.drive.state = s.drive.state := by simp)
    (hopen : t.episode.current.isSome = s.episode.current.isSome := by simp) : SlotsConsistent t := by
  refine ⟨h.mode.congr hdrive (by rw [hconfig]) hopen, fun i => ⟨(hslot i).1, ?_⟩⟩
  rw [(hslot i).2, State.configured_congr (s := s) (t := t) (by rw [hconfig]) i]
  exact (h.absent_iff i)

/-- One slot's record replaced by a consistent one in the same state. -/
theorem SlotsConsistent.setSlot {s : State} (h : SlotsConsistent s) {i : Slot} {r : SlotRecord}
    (hr : r.Consistent) (hstate : r.state = (s.slot i).state) : SlotsConsistent (s.setSlot i r) := by
  refine h.of_slots fun j => ?_
  rw [State.setSlot_slot]
  split
  · next hij => subst hij; exact ⟨hr, hstate⟩
  · exact ⟨(h.record j), rfl⟩

/-- A record whose contactor keeps its lines and the kind of its pulse operation stays consistent. -/
theorem SlotRecord.Consistent.setContactor {r : SlotRecord} (h : r.Consistent) {c : Contactor}
    (hclose : c.closeLine = r.contactor.closeLine) (hopen : c.openLine = r.contactor.openLine)
    (hpulse : c.pulse.map (·.kind) = r.contactor.pulse.map (·.kind)) :
    ({ r with contactor := c } : SlotRecord).Consistent := by
  simpa [SlotRecord.Consistent, hclose, hopen, hpulse] using h

/-- A record whose link holds fewer than six characters stays consistent. -/
theorem SlotRecord.Consistent.setLink {r : SlotRecord} (h : r.Consistent) {l : LinkFacts}
    (hgroup : l.group.length < 6) : ({ r with link := l } : SlotRecord).Consistent := by
  obtain ⟨hclose, hopen, hpulse, hoffset, hpending, -⟩ := h
  exact ⟨hclose, hopen, hpulse, hoffset, hpending, hgroup⟩

/-- A record whose pending fault stands in ACTIVE or PARKED alone stays consistent. -/
theorem SlotRecord.Consistent.setFault {r : SlotRecord} (h : r.Consistent) {f : FaultFacts}
    (hf : f.pending.isSome = true → r.state.candidate = true) :
    ({ r with fault := f } : SlotRecord).Consistent := by
  obtain ⟨hclose, hopen, hpulse, hoffset, -, hgroup⟩ := h
  exact ⟨hclose, hopen, hpulse, hoffset, hf, hgroup⟩

/-! ## Changes of state -/

/-- A record is consistent after it enters any state (R4, R5, R21, R22). -/
theorem SlotRecord.Consistent.entered {r : SlotRecord} (h : r.Consistent) (x : SlotState) (now : PartTime)
    (timeout : Nat) : (r.entered x now timeout).Consistent := by
  obtain ⟨-, -, -, -, hpending, hgroup⟩ := h
  refine ⟨rfl, rfl, ?_, ?_, ?_, hgroup⟩
  · cases x <;> rfl
  · simp only [SlotRecord.entered]
    split <;> simp_all
  · cases hx : x.candidate <;> cases hr : r.state.candidate <;> simp_all [SlotRecord.entered]

/-- A slot that is not ABSENT enters a state that is not ABSENT. -/
theorem SlotsConsistent.enterState {s : State} (h : SlotsConsistent s) {i : Slot} {x : SlotState} (c : Code)
    (hi : (s.slot i).state ≠ .absent) (hx : x ≠ .absent) : SlotsConsistent (s.enterState i x c) := by
  refine ⟨h.mode.congr (by simp) (by simp) (by simp), fun j => ?_⟩
  rw [State.enterState_slot, State.configured_congr (s := s) (t := s.enterState i x c) (by simp) j]
  split
  · next hij =>
    subst hij
    exact ⟨(h.record i).entered .., iff_of_false hx fun hc => hi ((h.absent_iff i).mpr hc)⟩
  · exact h.2 j

theorem SlotsConsistent.startFaulted {s : State} (h : SlotsConsistent s) {i : Slot}
    (hi : (s.slot i).state = .faulted) : SlotsConsistent (s.startFaulted i) :=
  h.enterState _ (by simp [hi]) (by simp)

theorem SlotsConsistent.startAllFaulted {s : State} (h : SlotsConsistent s) (p : Slot → Bool) :
    SlotsConsistent (s.startAllFaulted p) := by
  refine State.eachSlot_keeps (fun i t ht => ?_) h
  split
  · next hi => exact ht.startFaulted hi.1
  · exact ht

/-- The state a commit gives a candidate is ACTIVE or PARKED (R103, R104). -/
theorem State.commitTarget_cases (s : State) (i : Slot) :
    s.commitTarget i = .active ∨ s.commitTarget i = .parked := by
  unfold State.commitTarget
  (repeat' split) <;> simp

theorem SlotsConsistent.settleCandidate {s : State} (h : SlotsConsistent s) (i : Slot) {x : SlotState}
    (hx : x ≠ .absent) : SlotsConsistent (settleCandidate x i s) := by
  unfold Machine.settleCandidate
  split
  · next hi => exact h.enterState _ (fun ha => by simp [ha, SlotState.candidate] at hi) hx
  · exact h

theorem SlotsConsistent.writeOffsets {s : State} (h : SlotsConsistent s) :
    SlotsConsistent s.writeOffsets := by
  refine h.of_slots fun i => ?_
  obtain ⟨hclose, hopen, hpulse, -, hpending, hgroup⟩ := (h.record i)
  rw [State.writeOffsets, State.mapSlots_slot]
  exact ⟨⟨hclose, hopen, hpulse, by simp, hpending, hgroup⟩, rfl⟩

theorem SlotsConsistent.commit {s : State} (h : SlotsConsistent s) : SlotsConsistent s.commit := by
  have hsettled : SlotsConsistent (s.eachSlot fun i t => Machine.settleCandidate (s.commitTarget i) i t) :=
    State.eachSlot_keeps (fun i t ht => ht.settleCandidate i
      (by rcases s.commitTarget_cases i with h | h <;> simp [h])) h
  have hcommitted : SlotsConsistent
      { s.eachSlot fun i t => Machine.settleCandidate (s.commitTarget i) i t with
        committed := some s.commitPlan } := hsettled.congr
  unfold State.commit
  exact hcommitted.writeOffsets.congr

/-! ## Halts and closes -/

theorem SlotsConsistent.offer {s : State} (h : SlotsConsistent s) (b : NoticeBody) :
    SlotsConsistent (s.offer b) := h.congr

theorem SlotsConsistent.halt {s : State} (h : SlotsConsistent s) (c : Code) :
    SlotsConsistent (s.halt c) := by
  refine h.of_mode ?_
  have hmode := h.mode
  unfold State.halt
  split
  · next hd =>
    exact modeSound_of_configured (by simp) (by simpa using hmode.n_ne_none (by simp [hd]))
      (by simpa [hd] using hmode.episode_open)
  · next hd =>
    exact modeSound_of_configured (by simp) (by simpa using hmode.n_ne_none (by simp [hd]))
      (by simpa [hd] using hmode.episode_open)
  · exact hmode

/-- A closed record leaves no episode open (R90). -/
@[simp] theorem State.closeRecord_current (o : EpisodeOutcome) (s : State) :
    (s.closeRecord o).episode.current = none := by
  unfold State.closeRecord
  split
  · assumption
  · rfl

theorem SlotsConsistent.failEpisode {s : State} (h : SlotsConsistent s) (k : FailureCause) (c : Code) :
    SlotsConsistent (s.failEpisode k c) := by
  unfold State.failEpisode
  split
  · exact h
  · next e he =>
    have hn := h.mode.n_ne_none (by simp [h.mode.riding_of_current he])
    exact (h.of_mode (modeSound_of_configured (by simp) (by simpa using hn) (by simp))).startAllFaulted _

theorem SlotsConsistent.closeRestored {s : State} (h : SlotsConsistent s) (r : Reference) :
    SlotsConsistent (s.closeRestored r) := by
  unfold State.closeRestored
  split
  · exact h
  · next e he =>
    have hn := h.mode.n_ne_none (by simp [h.mode.riding_of_current he])
    exact (h.of_mode (modeSound_of_configured (by simp) (by simpa using hn) (by simp))).startAllFaulted _

/-! ## The episode's phases -/

theorem SlotsConsistent.setPhase {s : State} (h : SlotsConsistent s) (p : EpisodePhase) :
    SlotsConsistent (s.setPhase p) := h.congr

theorem SlotsConsistent.enterPlan {s : State} (h : SlotsConsistent s) : SlotsConsistent s.enterPlan := by
  unfold State.enterPlan
  dsimp only
  split
  · exact (h.setPhase .plan).failEpisode _ _
  · exact (h.setPhase .plan).commit.congr

theorem SlotsConsistent.checkBypass {s : State} (h : SlotsConsistent s) : SlotsConsistent s.checkBypass := by
  unfold State.checkBypass
  split
  · exact h
  · split
    · exact h.enterPlan
    · exact h

theorem SlotsConsistent.enterBypass {s : State} (h : SlotsConsistent s) : SlotsConsistent s.enterBypass := by
  have hphase : SlotsConsistent { s.setPhase .bypass with
      episode := { (s.setPhase .bypass).episode with settle := none } } := (h.setPhase .bypass).congr
  unfold State.enterBypass
  exact (hphase.startAllFaulted _).checkBypass

theorem SlotsConsistent.enterIsolate {s : State} (h : SlotsConsistent s) :
    SlotsConsistent s.enterIsolate := by
  unfold State.enterIsolate
  dsimp only
  split
  · exact (h.setPhase .isolate).enterBypass
  · exact (h.setPhase .isolate).congr rfl rfl rfl rfl

theorem SlotsConsistent.openEpisode {s : State} (h : SlotsConsistent s) (hd : s.drive.state = .running)
    (i : Slot) (c : Code) (k : Nat) : SlotsConsistent (s.openEpisode i c k) := by
  have hn := h.mode.n_ne_none (by simp [hd])
  have hbegin : SlotsConsistent (s.beginEpisode i c k) :=
    h.of_mode (modeSound_of_configured (by simp) (by simpa using hn) (by simp))
  exact (hbegin.offer _).enterIsolate

theorem SlotsConsistent.reisolate {s : State} (h : SlotsConsistent s) : SlotsConsistent s.reisolate := by
  unfold State.reisolate
  dsimp only
  split <;> exact SlotsConsistent.enterIsolate h.congr

theorem SlotsConsistent.offerToEpisode {s : State} (h : SlotsConsistent s) {i : Slot}
    (hi : (s.slot i).state = .faulted) (c : Code) (k : Nat) : SlotsConsistent (s.offerToEpisode i c k) := by
  unfold State.offerToEpisode
  split
  · exact h
  · split
    · exact h.failEpisode _ _
    · have hlist : SlotsConsistent (s.listSlot i c k) := h.congr
      have hstart : SlotsConsistent ((s.listSlot i c k).startFaulted i) :=
        hlist.startFaulted ((congrArg _ (State.slot_congr (by simp) i)).trans hi)
      dsimp only
      split
      · exact hlist
      · exact hstart
      · exact hstart.setPhase _
      · exact hstart.setPhase _
      · exact hstart.setPhase _
      · exact hlist.reisolate
      · exact hlist.reisolate

/-! ## Fault intake -/

/-- A source whose presentations are taken: a slot in ACTIVE or PARKED (R38), or any line. -/
def FaultSource.Sampled (s : State) : FaultSource → Prop
  | .slot i => (s.slot i).state.candidate = true
  | .line _ => True

/-- Writing a source's facts leaves the states of the slots. -/
theorem State.setFacts_state (src : FaultSource) (f : FaultFacts) (i : Slot) (s : State) :
    ((s.setFacts src f).slot i).state = (s.slot i).state := by
  cases src with
  | slot j =>
    rw [State.setFacts, State.setSlot_slot]
    split
    · next h => subst h; rfl
    · rfl
  | line l => exact congrArg _ (State.slot_congr (by simp [State.setFacts]) i)

theorem FaultSource.Sampled.setFacts {s : State} {src : FaultSource} (h : src.Sampled s) (f : FaultFacts) :
    src.Sampled (s.setFacts src f) := by
  cases src with
  | slot i => simpa [FaultSource.Sampled, State.setFacts_state] using h
  | line l => trivial

theorem SlotsConsistent.setFacts {s : State} (h : SlotsConsistent s) {src : FaultSource}
    (hsrc : src.Sampled s) (f : FaultFacts) : SlotsConsistent (s.setFacts src f) := by
  cases src with
  | slot i => exact h.setSlot ((h.record i).setFault fun _ => hsrc) rfl
  | line l => exact h.congr rfl rfl rfl rfl

theorem SlotsConsistent.rideAction {s : State} (h : SlotsConsistent s) {i : Slot}
    (hi : (s.slot i).state.candidate = true) (p : PendingFault) : SlotsConsistent (s.rideAction i p) := by
  have hne : (s.slot i).state ≠ .absent := fun ha => by simp [ha, SlotState.candidate] at hi
  have hfaulted : SlotsConsistent (s.enterState i .faulted p.code) := h.enterState _ hne (by simp)
  have hstate : ((s.enterState i .faulted p.code).slot i).state = .faulted := by
    rw [State.enterState_slot, if_pos rfl]; rfl
  unfold State.rideAction
  dsimp only
  split
  · exact hfaulted
  · exact hfaulted.startFaulted hstate
  · exact hfaulted.startFaulted hstate
  · next hd => exact hfaulted.openEpisode hd _ _ _
  · exact hfaulted.offerToEpisode hstate _ _

theorem SlotsConsistent.haltAction {s : State} (h : SlotsConsistent s) (c : Code) :
    SlotsConsistent (s.haltAction c) := by
  unfold State.haltAction
  split
  · exact h.failEpisode _ _
  · exact h.halt _
  · exact h.halt _
  · exact h

theorem SlotsConsistent.noteAction {s : State} (h : SlotsConsistent s) {src : FaultSource}
    (hsrc : src.Sampled s) (p : PendingFault) : SlotsConsistent (s.noteAction src p) := by
  unfold State.noteAction
  dsimp only
  split
  · exact h.setFacts hsrc _
  · exact (h.setFacts hsrc _).offer _

theorem SlotsConsistent.act {s : State} (h : SlotsConsistent s) {src : FaultSource} (hsrc : src.Sampled s)
    (p : PendingFault) : SlotsConsistent (s.act src p) := by
  unfold State.act
  split
  · exact h
  · exact h.noteAction hsrc p
  · exact h.rideAction hsrc p
  · exact h.haltAction _
  · exact h.haltAction _

theorem SlotsConsistent.settlePending {s : State} (h : SlotsConsistent s) {src : FaultSource}
    (hsrc : src.Sampled s) (p : PendingFault) : SlotsConsistent (s.settlePending src p) := by
  unfold State.settlePending
  split
  · exact (h.setFacts hsrc _).act (hsrc.setFacts _) p
  · exact h.setFacts hsrc _

theorem SlotsConsistent.firstSight {s : State} (h : SlotsConsistent s) {src : FaultSource}
    (hsrc : src.Sampled s) (c : Code) : SlotsConsistent (s.firstSight src c) := by
  unfold State.firstSight
  dsimp only
  split
  · exact h.setFacts hsrc _
  · exact h.settlePending hsrc _

theorem SlotsConsistent.present {s : State} (h : SlotsConsistent s) {src : FaultSource}
    (hsrc : src.Sampled s) (x : Presentation) : SlotsConsistent (s.present src x) := by
  unfold State.present
  dsimp only
  split
  · exact h.setFacts hsrc _
  · exact h.setFacts hsrc _
  · split
    · split
      · exact h.settlePending hsrc _
      · exact h.firstSight hsrc _
    · exact h.firstSight hsrc _

theorem SlotsConsistent.extLineSample {s : State} (h : SlotsConsistent s) (l : ExtLine) (mv : Nat) :
    SlotsConsistent (s.extLineSample l mv) := by
  unfold State.extLineSample
  split
  · exact h
  · exact SlotsConsistent.present (src := .line l) h.congr trivial _

/-! ## Contactors -/

theorem SlotsConsistent.presentBypassCode {s : State} (h : SlotsConsistent s) (c : Code) :
    SlotsConsistent (s.presentBypassCode c) := by
  unfold State.presentBypassCode
  split
  · split
    · exact h
    · exact h.halt _
  · exact h.failEpisode _ _
  · exact h

theorem SlotsConsistent.stick {s : State} (h : SlotsConsistent s) {i : Slot}
    (hi : (s.slot i).state ≠ .absent) (c : Code) : SlotsConsistent (s.stick i c) :=
  (h.enterState c hi (by simp)).presentBypassCode c

theorem SlotsConsistent.completeBypass {s : State} (h : SlotsConsistent s) {i : Slot}
    (hi : (s.slot i).state ≠ .absent) (n : Nat) : SlotsConsistent (s.completeBypass i n) := by
  have hentered := SlotsConsistent.enterState (x := .bypassed)
    (h.setSlot ((h.record i).setContactor (c := { (s.slot i).contactor with lastClose := some n })
      rfl rfl rfl) rfl) 0 (i := i) (by simpa using hi) (by simp)
  unfold State.completeBypass
  dsimp only
  split
  · exact hentered.checkBypass
  · exact hentered

theorem SlotsConsistent.completeReturn {s : State} (h : SlotsConsistent s) {i : Slot}
    (hi : (s.slot i).state ≠ .absent) (n : Nat) : SlotsConsistent (s.completeReturn i n) :=
  SlotsConsistent.enterState
    (h.setSlot ((h.record i).setContactor (c := { (s.slot i).contactor with lastOpen := some n })
      rfl rfl rfl) rfl) 0 (by simpa using hi) (by simp)

theorem SlotsConsistent.pulseGoesOn {s : State} (h : SlotsConsistent s) (i : Slot) :
    SlotsConsistent (s.pulseGoesOn i) :=
  h.setSlot ((h.record i).setContactor rfl rfl (by simp [Function.comp_def])) rfl

theorem SlotsConsistent.feedbackEffect {s : State} (h : SlotsConsistent s) (i : Slot) (before : Contactor) :
    SlotsConsistent (s.feedbackEffect i before) := by
  have anomaly (b : Bool) (c : Code) (hi : (s.slot i).state ≠ .absent) :
      SlotsConsistent (if b = true then s.stick i c else s) := by
    split
    · exact h.stick hi c
    · exact h
  unfold State.feedbackEffect
  dsimp only
  cases hx : (s.slot i).state with
  | absent | stuck => exact h
  | active | parked | faulted | bypassed => exact anomaly _ _ (by simp [hx])
  | bypassing =>
    dsimp only
    split
    · exact h
    · split
      · exact h.completeBypass (by simp [hx]) _
      · exact h.pulseGoesOn i
  | returning =>
    dsimp only
    split
    · exact h
    · split
      · exact h.completeReturn (by simp [hx]) _
      · exact h.pulseGoesOn i

/-- The debounce step keeps the pulse lines and the pulse operation. -/
@[simp] theorem Contactor.debounce_pulse (c : Contactor) (x : Feedback) (now : PartTime) :
    (c.debounce x now).closeLine = c.closeLine ∧ (c.debounce x now).openLine = c.openLine ∧
    (c.debounce x now).pulse = c.pulse := by
  unfold Contactor.debounce
  dsimp only
  (repeat' split) <;> simp

theorem SlotsConsistent.feedbackSample {s : State} (h : SlotsConsistent s) (i : Slot) (high : Bool) :
    SlotsConsistent (s.feedbackSample i high) := by
  have hreach : SlotsConsistent (s.reach (s.slot i).contactor.sampledAt 100) := h.congr
  have hslot : (s.reach (s.slot i).contactor.sampledAt 100).slot i = s.slot i :=
    State.slot_congr (by simp) i
  unfold State.feedbackSample
  dsimp only
  rw [hslot]
  refine SlotsConsistent.feedbackEffect (hreach.setSlot (SlotRecord.Consistent.setContactor ?_
    (by simp) (by simp) (by simp)) ?_) i _
  · exact (h.record i)
  · rw [hslot]

theorem SlotsConsistent.pulseTimeout {s : State} (h : SlotsConsistent s) {w : SlotState}
    (hw : w = .bypassing ∨ w = .returning) (i : Slot) : SlotsConsistent (s.pulseTimeout w i) := by
  unfold State.pulseTimeout
  split
  · exact h
  · split
    · next hi => exact h.stick (by rcases hw with rfl | rfl <;> simp [hi.1]) _
    · exact h

/-! ## Cell links -/

theorem SlotsConsistent.presentCell {s : State} (h : SlotsConsistent s) (i : Slot) (x : Presentation) :
    SlotsConsistent (s.presentCell i x) := by
  unfold State.presentCell
  split
  · next hi => exact h.present (src := .slot i) hi x
  · exact h

theorem SlotsConsistent.rechargeCheck {s : State} (h : SlotsConsistent s) :
    SlotsConsistent s.rechargeCheck := by
  unfold State.rechargeCheck
  split
  · exact h.setPhase _
  · exact h

theorem SlotsConsistent.takeReport {s : State} (h : SlotsConsistent s) (i : Slot) (r : CellReport) :
    SlotsConsistent (s.takeReport i r) := by
  have htaken := h.setSlot ((h.record i).setLink
    (l := (s.slot i).link.taken (s.slot i).state s.config r) (by simp [LinkFacts.taken])) rfl
  exact (htaken.presentCell i _).rechargeCheck

theorem SlotsConsistent.setGroup {s : State} (h : SlotsConsistent s) (i : Slot) {g : List Byte}
    (hg : g.length < 6) : SlotsConsistent (s.setGroup i g) :=
  h.setSlot ((h.record i).setLink hg) rfl

theorem SlotsConsistent.receiveChar {s : State} (h : SlotsConsistent s) (i : Slot) (b : Byte) :
    SlotsConsistent (s.receiveChar i b) := by
  unfold State.receiveChar
  dsimp only
  split
  · split
    · next hg => exact h.setGroup i hg
    · unfold State.judgeGroup
      split
      · exact h.setGroup i (by simp)
      · exact h.takeReport i _
  · exact h

theorem SlotsConsistent.answerMissing {s : State} (h : SlotsConsistent s) (i : Slot) :
    SlotsConsistent (s.answerMissing i) := by
  unfold State.answerMissing
  dsimp only
  split
  · have hgroup : ((s.slot i).link.missed s.config).group.length < 6 := by
      obtain ⟨-, -, -, -, -, hold⟩ := h.record i
      simp only [LinkFacts.missed]
      split
      · exact hold
      · simp
    exact SlotsConsistent.presentCell (h.setSlot ((h.record i).setLink hgroup) rfl) i _
  · exact h

/-- A slot's record after a beat: a configured slot is sent its frame (R25, R26). -/
theorem State.beat_slot (i : Slot) (s : State) :
    s.beat.slot i =
      if s.configured i then
        { s.slot i with
          link := (s.slot i).link.sendFrame
            ((s.reach s.beatAt 100).frameFor (s.reach s.beatAt 100).applied.1 i) }
      else s.slot i := by
  rw [State.beat, State.slot_congr (State.advanceRamp_frame _).2.1 i]
  dsimp only [State.slot]
  simp [State.configured_congr (s := s) (t := s.reach s.beatAt 100) (by simp) i]

theorem SlotsConsistent.beat {s : State} (h : SlotsConsistent s) : SlotsConsistent s.beat := by
  refine h.of_slots fun i => ?_
  rw [State.beat_slot]
  split
  · exact ⟨(h.record i).setLink (by simp [LinkFacts.sendFrame]), rfl⟩
  · exact ⟨(h.record i), rfl⟩

/-! ## The speed unit and the timers -/

theorem SlotsConsistent.guardHalt {s : State} (h : SlotsConsistent s) (r : SpeedResult) :
    SlotsConsistent (s.guardHalt r) := by
  unfold State.guardHalt
  split
  · exact h.halt _
  · split
    · exact h
    · exact h.halt _

theorem SlotsConsistent.guardRide {s : State} (h : SlotsConsistent s) (e : EpisodeRecord)
    (r : SpeedResult) : SlotsConsistent (s.guardRide e r) := by
  unfold State.guardRide
  split
  · exact h.failEpisode _ _
  · split
    · exact h.failEpisode _ _
    · split
      · exact h.failEpisode _ _
      · split
        · exact h.congr (by simp) (by simp) (by simp) (by simp [State.capture])
        · exact h

theorem SlotsConsistent.judgeSpeed {s : State} (h : SlotsConsistent s) (before r : SpeedResult) :
    SlotsConsistent (s.judgeSpeed before r) := by
  unfold State.judgeSpeed
  split
  · exact h
  · exact h.guardHalt r
  · exact h.guardHalt r
  · exact h.congr
  · split
    · exact h
    · exact h.guardRide _ r

theorem SlotsConsistent.gateCompletion {s : State} (h : SlotsConsistent s) :
    SlotsConsistent s.gateCompletion := by
  unfold State.gateCompletion
  split
  · exact h
  · split
    · exact SlotsConsistent.judgeSpeed h.congr _ _
    · exact h

theorem SlotsConsistent.rampCompletion {s : State} (h : SlotsConsistent s) :
    SlotsConsistent s.rampCompletion := by
  unfold State.rampCompletion
  split
  · exact h
  · split
    · split
      · exact h
      · exact SlotsConsistent.setPhase h.congr _
    · exact h

theorem SlotsConsistent.settleExpiry {s : State} (h : SlotsConsistent s) :
    SlotsConsistent s.settleExpiry := by
  unfold State.settleExpiry
  split
  · exact h
  · split
    · have hstopped : SlotsConsistent { s with episode := { s.episode with settle := none } } := h.congr
      dsimp only
      split
      · exact hstopped.enterBypass
      · exact hstopped
    · exact h

theorem SlotsConsistent.windowExpiry {s : State} (h : SlotsConsistent s) :
    SlotsConsistent s.windowExpiry := by
  unfold State.windowExpiry
  split
  · exact h
  · split
    · exact SlotsConsistent.failEpisode h.congr _ _
    · exact h

theorem SlotsConsistent.handoverExpiry {s : State} (h : SlotsConsistent s) :
    SlotsConsistent s.handoverExpiry := by
  unfold State.handoverExpiry
  split
  · exact h
  · split
    · exact SlotsConsistent.failEpisode h.congr _ _
    · exact h

theorem SlotsConsistent.supervisionExpiry {s : State} (h : SlotsConsistent s) :
    SlotsConsistent s.supervisionExpiry := by
  unfold State.supervisionExpiry
  split
  · exact h
  · split
    · have hstopped : SlotsConsistent { s with drive := { s.drive with supervision := none } } := h.congr
      dsimp only
      split
      · exact hstopped.halt _
      · exact hstopped
    · exact h

/-! ## The requests -/

/-- What the part has, and what an accepted request leaves, the part has after the request's service. -/
theorem serveWith_keeps_accepted {P : State → Prop} {c : Option RefusalCause} {t : State} {b : List Byte}
    {s : State} (hs : P s) (ht : c = none → P t) : P (serveWith c t b s).1 := by
  cases c with
  | none => exact ht rfl
  | some k => exact hs

/-- A chain of checks passes exactly when each of them does. -/
theorem firstRefusal_eq_none {l : List (Bool × RefusalCause)} :
    firstRefusal l = none ↔ ∀ c ∈ l, c.1 = true := by
  simp [firstRefusal, List.find?_eq_none]

/-- An accepted CONFIGURE carries N in UNCONFIGURED, and no other N than the standing one in STOPPED and
HALTED (R170). -/
theorem refuseConfigure_eq_none {q : Items} {s : State} (h : refuseConfigure q s = none) :
    (s.drive.state = .unconfigured ∧ ∃ n, field q 1 = some n) ∨
    ((s.drive.state = .stopped ∨ s.drive.state = .halted) ∧
      ∀ v, field q 1 = some v → s.config.n = some v) := by
  unfold refuseConfigure at h
  simp only [firstRefusal_eq_none, List.forall_mem_append, List.forall_mem_cons] at h
  obtain ⟨⟨⟨hstate, hmissing, hsame, -⟩, -⟩, -⟩ := h
  by_cases hd : s.drive.state = .unconfigured
  · exact .inl ⟨hd, Option.isSome_iff_exists.mp (by simpa [hd] using hmissing)⟩
  · refine .inr ⟨by simpa [hd] using hstate, fun v hv => ?_⟩
    simpa [hd, fieldOk, hv] using hsame

/-- A slot that leaves ABSENT at the first CONFIGURE is consistent in the state it inherits (R16). -/
theorem SlotRecord.Consistent.inheritSlot {r : SlotRecord} (h : r.Consistent) (hr : r.state = .absent)
    (n : Nat) (i : Slot) : (inheritSlot n i r).Consistent := by
  obtain ⟨hclose, hopen, hpulse, hoffset, hpending, hgroup⟩ := h
  unfold Machine.inheritSlot
  split
  · refine ⟨?_, ?_, ?_, ?_, ?_, hgroup⟩ <;> split <;> simp_all [SlotState.candidate]
  · exact ⟨hclose, hopen, hpulse, hoffset, hpending, hgroup⟩

/-- The first CONFIGURE, which brings N, leaves the slots at positions above N alone ABSENT (R16). -/
theorem SlotsConsistent.firstConfigure {s t : State} (h : SlotsConsistent s)
    (hd : s.drive.state = .unconfigured) (hslots : t.slots = s.slots) (hn : t.config.n ≠ none)
    (hopen : t.episode = s.episode) : SlotsConsistent t.firstConfigure := by
  have habsent : ∀ i, (s.slot i).state = .absent := fun i =>
    (h.absent_iff i).mpr (by simp [State.configured, State.n, h.mode.unconfigured_iff.mp hd, slotPosition])
  have hslot : ∀ i, t.firstConfigure.slot i = inheritSlot t.n i (s.slot i) := fun i => by
    rw [State.firstConfigure, State.offer_slot, ← State.slot_congr hslots i]
    simp [State.slot]
  refine ⟨modeSound_of_configured (by simp [State.firstConfigure]) (by simpa using hn)
    (by simpa [hopen, hd, State.firstConfigure] using h.mode.episode_open), fun i => ?_⟩
  rw [hslot, State.configured_congr (s := t) (by simp) i]
  refine ⟨(h.record i).inheritSlot (habsent i) _ _, ?_⟩
  unfold inheritSlot State.configured
  split
  · split <;> simp_all
  · simp_all

theorem SlotsConsistent.serveConfigure {s : State} (h : SlotsConsistent s) (q : Items) :
    SlotsConsistent (serveConfigure q s).1 := by
  refine serveWith_keeps_accepted h fun hc => ?_
  unfold State.acceptConfig
  rcases refuseConfigure_eq_none hc with ⟨hd, n, hn⟩ | ⟨hd, hn⟩
  · rw [if_pos hd]
    exact h.firstConfigure hd rfl (by simp [configAfter, hn]) rfl
  · have hsame : (configAfter q s.config).n = s.config.n := by
      cases hq : field q 1 with
      | none => simp [configAfter, hq]
      | some v => simp [configAfter, hq, hn v hq]
    rw [if_neg (by rcases hd with hd | hd <;> simp [hd])]
    refine ⟨h.mode.congr rfl hsame rfl, fun i => ?_⟩
    rw [State.configured_congr (s := s) hsame i]
    exact h.2 i

theorem SlotsConsistent.serveStart {s : State} (h : SlotsConsistent s) (q : Items) :
    SlotsConsistent (serveStart q s).1 := by
  refine serveWith_keeps_accepted h fun hc => ?_
  have hd : s.drive.state = .stopped := of_decide_eq_true (firstRefusal_eq_none.mp hc _ (.head _))
  have hcommit := h.commit
  have hn := hcommit.mode.n_ne_none (by simp [hd])
  have hidle := hcommit.mode.episode_open
  unfold State.acceptStart
  exact hcommit.of_mode (modeSound_of_configured (by simp) (by simpa using hn)
    (by simpa [hd] using hidle))

theorem SlotsConsistent.serveStop {s : State} (h : SlotsConsistent s) (q : Items) :
    SlotsConsistent (serveStop q s).1 := by
  refine serveWith_keeps h ?_
  unfold State.acceptStop
  split
  · next hd =>
    exact h.of_mode (modeSound_of_configured (by simp)
      (by simpa using h.mode.n_ne_none (by simp [hd])) (by simpa [hd] using h.mode.episode_open))
  · exact h.failEpisode _ _
  · exact h

theorem SlotsConsistent.serveClearHalt {s : State} (h : SlotsConsistent s) (q : Items) :
    SlotsConsistent (serveClearHalt q s).1 := by
  refine serveWith_keeps_accepted h fun hc => ?_
  have hd : s.drive.state = .halted := of_decide_eq_true (firstRefusal_eq_none.mp hc _ (.head _))
  exact h.of_mode (modeSound_of_configured (by simp [State.acceptClearHalt])
    (by simpa using h.mode.n_ne_none (by simp [hd]))
    (by simpa [hd, State.acceptClearHalt] using h.mode.episode_open))

theorem SlotsConsistent.acceptReference {s : State} (h : SlotsConsistent s) (r : Reference) :
    SlotsConsistent (s.acceptReference r) := by
  unfold State.acceptReference
  split
  · exact h.closeRestored r
  · exact h.congr

theorem SlotsConsistent.serveBypassCell {s : State} (h : SlotsConsistent s) (q : Items) :
    SlotsConsistent (serveBypassCell q s).1 := by
  unfold Machine.serveBypassCell
  split
  · exact serveWith_keeps h h
  · refine serveWith_keeps_accepted h fun hc => h.enterState _ ?_ (by simp)
    exact of_decide_eq_true (firstRefusal_eq_none.mp hc _ (.tail _ (.head _)))

theorem SlotsConsistent.serveReturnCell {s : State} (h : SlotsConsistent s) (q : Items) :
    SlotsConsistent (serveReturnCell q s).1 := by
  unfold Machine.serveReturnCell
  split
  · exact serveWith_keeps h h
  · refine serveWith_keeps_accepted h fun hc => h.enterState _ ?_ (by simp)
    exact of_decide_eq_true (firstRefusal_eq_none.mp hc _ (.tail _ (.head _)))

theorem SlotsConsistent.serveKind {s : State} (h : SlotsConsistent s) (k : RequestKind) (q : Items) :
    SlotsConsistent (serveKind k q s).1 := by
  cases k
  case configure => exact h.serveConfigure q
  case start => exact h.serveStart q
  case stop => exact h.serveStop q
  case clearHalt => exact h.serveClearHalt q
  case reference => exact serveWith_keeps h (h.acceptReference _)
  case bypassCell => exact h.serveBypassCell q
  case returnCell => exact h.serveReturnCell q
  case readConfig | readCells | planList | readEpisode | readStatus => exact serveWith_keeps h h
  case planPut | planDrop | planClear | takeNotices | noticeMask | linkReset =>
    exact serveWith_keeps h h.congr
  case routeSet | routeRead | extSet | readCell =>
    simp only [Machine.serveKind, serveRouteSet, serveRouteRead, serveExtSet, serveReadCell]
    split <;> exact serveWith_keeps h h.congr

/-! ## Every step -/

/-- The part after a device reset: every slot ABSENT, N absent, no episode open (R2). -/
theorem slotsConsistent_of_reset {s : State} (hslots : s.slots = State.reset.slots)
    (hn : s.config.n = none) (hd : s.drive.state = .unconfigured)
    (he : s.episode.current = none) : SlotsConsistent s := by
  refine ⟨⟨iff_of_true hd hn, by simp [hd, he]⟩, fun i => ?_⟩
  have hslot : s.slot i = {} := by simp [State.slot, hslots, State.reset]
  rw [hslot]
  exact ⟨by simp [SlotRecord.Consistent], by simp [State.configured, State.n, hn, slotPosition]⟩

/-- Settles O9: the condition is kept by every block's operation, so by every step. -/
theorem slotRecordsStayConsistent : Obligations.SlotRecordsStayConsistent := by
  intro s t hs hstep
  refine step_keeps (P := SlotsConsistent) (fun s x h => h.congr) (fun s l h => h.congr)
    (fun c s t hs hexec => ?_) hs hstep
  refine exec_keeps (P := SlotsConsistent) (fun s l h => h.congr) (fun s b h => h.congr)
    (fun s => slotsConsistent_of_reset rfl rfl rfl rfl) (fun k q s h => h.serveKind k q)
    (fun s h => h.beat) (fun s h => h.rampCompletion) (fun i b s h => h.receiveChar i b)
    (fun i s h => h.answerMissing i) (fun l mv s h => h.extLineSample l mv)
    (fun i b s h => h.feedbackSample i b) (fun x i s hx h => h.pulseTimeout hx i)
    (fun s h => h.gateCompletion) (fun s h => h.settleExpiry) (fun s h => h.windowExpiry)
    (fun s h => h.handoverExpiry) (fun s h => h.supervisionExpiry)
    (fun a b s h => h.congr) hs hexec

end Sys2Proof.Machine
end

section
/-! How a request that completes now is served and answered, and the requests on cells (R17 to R19, R152). -/

namespace Sys2Proof.Machine

/-! ## A request served at once -/

@[simp] theorem kindOf_byte (k : RequestKind) : kindOf k.byte = some k := by cases k <;> rfl

theorem State.setRequests_nil {s : State} (h : s.link.requests = []) : s.setRequests [] = s := by
  rw [← h]; rfl

/-- A request whose payload a frame can hold is served in the step that completes it (R151, R152). -/
theorem request_served {k : RequestKind} {tag : Byte} {p : List Byte} {s : State} (h : s.canServe)
    (hp : p.length ≤ Config.maxPayload) :
    live (State.request k.byte tag p) s =
      .next ((serveRequest { kind := k.byte, tag := tag, payload := p } s).1.answered k.byte tag
        (serveRequest { kind := k.byte, tag := tag, payload := p } s).2) := by
  obtain ⟨hreset, hrequests, hreplies⟩ := h
  rw [live_of_not_inReset hreset, State.request, if_neg (Nat.not_lt.mpr hp), State.arrive,
    State.offerRequest, if_pos (by simp [hrequests, Config.requestCapacity]), State.serveHead]
  simp only [hrequests, List.nil_append, State.setRequests_link]
  rw [if_pos (by simpa [Config.replyCapacity] using hreplies)]
  have hempty : (s.setRequests [{ kind := k.byte, tag := tag, payload := p }]).setRequests [] = s :=
    State.setRequests_nil hrequests
  rw [hempty]
  rfl

/-- A request with items of its kind is answered by the block that owns the kind (R152). -/
theorem request_carries {k : RequestKind} {tag : Byte} {p : List Byte} {q : Items} {s : State}
    (h : s.canServe) (hp : carries k p q) :
    live (State.request k.byte tag p) s =
      .next ((serveKind k q s).1.answered k.byte tag (serveKind k q s).2) := by
  rw [request_served h hp.2]
  simp [serveRequest, hp.1]

/-- A payload with no item. -/
theorem carries_nil (k : RequestKind) : carries k [] [] := ⟨rfl, Nat.zero_le _⟩

/-- A payload with one item of one byte. -/
theorem carries_one {k : RequestKind} (hk : fieldSize k 1 = some 1) (v : Byte) :
    carries k [1, v] [(1, v.toNat)] := by
  refine ⟨?_, by simp [Config.maxPayload]⟩
  simp [itemsOf, parseItems, hk, valueOf, field]

/-- A request that is refused answers the refusal and changes nothing (R153). -/
theorem request_refused {k : RequestKind} {tag : Byte} {p : List Byte} {q : Items} {s : State}
    {c : RefusalCause} (h : s.canServe) (hp : carries k p q) (hserve : serveKind k q s = (s, .refused c)) :
    live (State.request k.byte tag p) s = .next (s.answered k.byte tag (.refused c)) := by
  rw [request_carries h hp, hserve]

/-- A request that is carried out leaves the part as its block leaves it and answers OK (R153). -/
theorem request_accepted {k : RequestKind} {tag : Byte} {p : List Byte} {q : Items} {s t : State}
    {b : List Byte} (h : s.canServe) (hp : carries k p q) (hserve : serveKind k q s = (t, .ok b)) :
    live (State.request k.byte tag p) s = .next (t.answered k.byte tag (.ok b)) := by
  rw [request_carries h hp, hserve]

/-! ## Slot bytes (R17) -/

/-- A byte whose phase or position lies outside its range names no slot. -/
theorem slotField_none {v : Byte}
    (hv : v.toNat / 16 = 0 ∨ 3 < v.toNat / 16 ∨ v.toNat % 16 = 0 ∨ 9 < v.toNat % 16) :
    slotField [(1, v.toNat)] = none := by
  have : ¬(1 ≤ v.toNat / 16 ∧ v.toNat / 16 ≤ 3 ∧ 1 ≤ v.toNat % 16 ∧ v.toNat % 16 ≤ 9) := by omega
  simp [slotField, field, slotOfByte, this]

/-- The byte of a slot names it. -/
theorem slotField_slotByte (i : Slot) :
    slotField [(1, (BitVec.ofNat 8 (16 * (i.val / 9 + 1) + i.val % 9 + 1)).toNat)] = some i := by
  revert i; decide

/-! ## BYPASS_CELL and RETURN_CELL -/

/-- BYPASS_CELL's checks in order (R18). -/
theorem refuseBypassCell_eq (i : Slot) (s : State) : refuseBypassCell i s =
    if s.drive.state = .stopped ∨ s.drive.state = .halted then
      match (s.slot i).state with
      | .absent => some (.range 1)
      | .active | .parked | .faulted | .stuck => none
      | .bypassing | .bypassed | .returning => some .state
    else some .state := by
  simp only [refuseBypassCell, firstRefusal_cons, firstRefusal_nil, ← Bool.decide_or, decide_eq_true_eq]
  split
  · cases (s.slot i).state <;> rfl
  · rfl

/-- RETURN_CELL's checks in order (R19). -/
theorem refuseReturnCell_eq (i : Slot) (s : State) : refuseReturnCell i s =
    if s.drive.state = .stopped then
      if (s.slot i).state = .absent then some (.range 1)
      else if (s.slot i).state = .bypassed ∨ (s.slot i).state = .stuck then
        if (s.slot i).link.up = true ∧ (s.slot i).link.code = 0 then none else some .cellNotReady
      else some .state
    else some .state := by
  simp [refuseReturnCell, firstRefusal_nil]

/-- Settles O36: each clause is one outcome of the chain of checks. -/
theorem bypassCellStartsTheBypass : Obligations.BypassCellStartsTheBypass := by
  intro tag s h
  refine ⟨request_refused (k := .bypassCell) h (carries_nil _) rfl, fun v hv =>
    request_refused (k := .bypassCell) h (carries_one rfl v)
      (by simp only [serveKind, serveBypassCell, slotField_none hv, serveWith]), fun i => ?_⟩
  intro b x may
  have hserve : serveKind .bypassCell [(1, b.toNat)] s =
      serveWith (refuseBypassCell i s) (s.enterState i .bypassing 0) (cellReply i .bypassing) s := by
    simp only [serveKind, serveBypassCell, b, slotField_slotByte]
  have refused {c : RefusalCause} (hc : refuseBypassCell i s = some c) :
      exec (.bypassCell tag [1, b]) s = .next (s.answered 0x07 tag (.refused c)) :=
    request_refused (k := .bypassCell) h (carries_one rfl b) (by rw [hserve, hc]; rfl)
  have accepted (hc : refuseBypassCell i s = none) : exec (.bypassCell tag [1, b]) s =
      .next ((s.enterState i .bypassing 0).answered 0x07 tag (.ok [1, b, 2, 4])) :=
    request_accepted (k := .bypassCell) h (carries_one rfl b) (by rw [hserve, hc]; rfl)
  have hcheck := refuseBypassCell_eq i s
  refine ⟨fun hmay => refused ?_, fun hmay hx => refused ?_, fun hmay hx => refused ?_,
    fun hmay hx => accepted ?_⟩
  · rw [hcheck, if_neg hmay]
  · rw [hcheck, if_pos hmay, show (s.slot i).state = _ from hx]
  · rw [hcheck, if_pos hmay]
    rcases hx with hx | hx | hx <;> rw [show (s.slot i).state = _ from hx]
  · rw [hcheck, if_pos hmay]
    rcases hx with hx | hx | hx | hx <;> rw [show (s.slot i).state = _ from hx]

/-- Settles O37: each clause is one outcome of the chain of checks. -/
theorem returnCellStartsTheReturn : Obligations.ReturnCellStartsTheReturn := by
  intro tag s h
  refine ⟨request_refused (k := .returnCell) h (carries_nil _) rfl, fun v hv =>
    request_refused (k := .returnCell) h (carries_one rfl v)
      (by simp only [serveKind, serveReturnCell, slotField_none hv, serveWith]), fun i => ?_⟩
  intro b x ready
  have hserve : serveKind .returnCell [(1, b.toNat)] s =
      serveWith (refuseReturnCell i s) (s.enterState i .returning 0) (cellReply i .returning) s := by
    simp only [serveKind, serveReturnCell, b, slotField_slotByte]
  have refused {c : RefusalCause} (hc : refuseReturnCell i s = some c) :
      exec (.returnCell tag [1, b]) s = .next (s.answered 0x08 tag (.refused c)) :=
    request_refused (k := .returnCell) h (carries_one rfl b) (by rw [hserve, hc]; rfl)
  have accepted (hc : refuseReturnCell i s = none) : exec (.returnCell tag [1, b]) s =
      .next ((s.enterState i .returning 0).answered 0x08 tag (.ok [1, b, 2, 6])) :=
    request_accepted (k := .returnCell) h (carries_one rfl b) (by rw [hserve, hc]; rfl)
  have hcheck := refuseReturnCell_eq i s
  have present (hx : x = .bypassed ∨ x = .stuck) : (s.slot i).state ≠ .absent := by
    rcases hx with hx | hx <;> simp [show (s.slot i).state = _ from hx]
  refine ⟨fun hd => refused ?_, fun hd hx => refused ?_, fun hd ha hb hs => refused ?_,
    fun hd hx hr => refused ?_, fun hd hx hr => accepted ?_⟩
  · rw [hcheck, if_neg hd]
  · rw [hcheck, if_pos hd, if_pos hx]
  · rw [hcheck, if_pos hd, if_neg ha, if_neg (not_or.mpr ⟨hb, hs⟩)]
  · rw [hcheck, if_pos hd, if_neg (present hx), if_pos hx, if_neg hr]
  · rw [hcheck, if_pos hd, if_neg (present hx), if_pos hx, if_pos hr]

end Sys2Proof.Machine
end

section
/-! The reading requests (R20, R49, R100, R156, R168, R175). -/

namespace Sys2Proof.Machine

/-- A ROUTE_READ with a selector answers what the selector names (R49). -/
theorem serveRouteRead_some {v : Nat} {b : List Byte} {s : State} (h : routeReadBytes s v = some b) :
    serveKind .routeRead [(1, v)] s = (s, .ok b) := by
  simp [serveKind, serveRouteRead, field, h, serveWith]

/-- A ROUTE_READ whose selector names no route and no line is refused RANGE (R49). -/
theorem serveRouteRead_none {v : Nat} {s : State} (h : routeReadBytes s v = none) :
    serveKind .routeRead [(1, v)] s = (s, .refused (.range 1)) := by
  simp [serveKind, serveRouteRead, field, h, serveWith]

/-- A selector names route windows 0 to 7, the default route 8 and the lines from 16 to 19 (R49). -/
theorem routeReadBytes_none {v : Nat} (s : State) (h : 8 < v) (hv : v < 16 ∨ 19 < v) :
    routeReadBytes s v = none := by
  simp only [routeReadBytes]
  rw [dif_neg (by omega), if_neg (by omega), dif_neg (by omega)]

theorem routeReadBytes_window (s : State) (k : Fin 8) :
    routeReadBytes s k = some (BitVec.ofNat 8 k :: 1 :: windowBytes s.windows[k]) := by
  simp [routeReadBytes, byte1]

theorem routeReadBytes_line (s : State) (l : ExtLine) :
    routeReadBytes s (16 + l) = some (lineBytes l (s.line l)) := by
  simp only [routeReadBytes]
  rw [dif_neg (by omega), if_neg (by omega), dif_pos (by omega)]
  simp

/-- A PLAN_LIST answers the entries from its start on, or is refused RANGE (R100). -/
theorem servePlanList_one (v : Nat) (s : State) : serveKind .planList [(1, v)] s =
    (s, if v ≤ 31 then .ok (BitVec.ofNat 8 s.plans.length ::
      BitVec.ofNat 8 ((s.plans.drop v).take 8).length :: ((s.plans.drop v).take 8).flatMap entryBytes)
    else .refused (.range 1)) := by
  by_cases h : v ≤ 31 <;> simp [serveKind, servePlanList, fieldOk, fieldD, field, h, serveWith, byte1]

/-- A READ_EPISODE answers the record its selector names, or is refused (R167). -/
theorem serveReadEpisode_one (v : Nat) (s : State) : serveKind .readEpisode [(1, v)] s =
    (s, if v ≤ 4 then
      match s.selectEpisode v with
      | none => .refused .notFound
      | some e => .ok (episodeBytes e)
    else .refused (.range 1)) := by
  by_cases h : v ≤ 4
  · cases he : s.selectEpisode v <;>
      simp [serveKind, serveReadEpisode, refuseReadEpisode, fieldD, field, h, he, serveWith,
        firstRefusal_nil]
  · simp [serveKind, serveReadEpisode, refuseReadEpisode, field, h, serveWith]

/-- A small number stands in a byte as it is. -/
theorem toNat_ofNat_byte {n : Nat} (h : n < 256) : (BitVec.ofNat 8 n : Byte).toNat = n := by
  simpa using h

/-- READ_CELLS answers a byte of each slot in slot order (R20, R177). -/
theorem cellSummaries_eq (s : State) : (allSlots.flatMap fun i => byte1 (cellSummary (s.slot i))) =
    (List.finRange 27).map fun i =>
      BitVec.ofNat 8 (slotStateCode (s.slot i).state + (if (s.slot i).link.up then 16 else 0) +
        (if (s.slot i).contactor.feedback = .closed then 32 else 0)) := by
  rw [show allSlots = List.finRange 27 by decide, List.map_eq_flatMap]
  simp [byte1, cellSummary, flagBit]

/-- Settles O22: each request is answered from the state it finds. -/
theorem readsAnswerAndChangeNothing : Obligations.ReadsAnswerAndChangeNothing := by
  intro tag s h cell route list episode listed
  have served {k : RequestKind} {p : List Byte} {q : Items} {a : Answer} (hp : carries k p q)
      (hs : serveKind k q s = (s, a)) :
      live (State.request k.byte tag p) s = .next (s.answered k.byte tag a) := by
    rw [request_carries h hp, hs]
  have readEpisode (v : Byte) {a : Answer} (ha : serveKind .readEpisode [(1, v.toNat)] s = (s, a)) :
      episode [1, v] a := served (k := .readEpisode) (carries_one rfl v) ha
  have planList (v : Byte) {a : Answer} (ha : serveKind .planList [(1, v.toNat)] s = (s, a)) :
      list [1, v] a := served (k := .planList) (carries_one rfl v) ha
  have routeRead (v : Byte) {a : Answer} (ha : serveKind .routeRead [(1, v.toNat)] s = (s, a)) :
      route [1, v] a := served (k := .routeRead) (carries_one rfl v) ha
  refine ⟨served (k := .readConfig) (carries_nil _) rfl, served (k := .readCells) (carries_nil _) ?_,
    served (k := .readStatus) (carries_nil _) rfl, fun i => ?_, fun v hv => ?_,
    served (k := .readCell) (carries_nil _) rfl, fun k => routeRead _ ?_, routeRead _ ?_,
    fun l => routeRead _ ?_, fun v h8 hv => routeRead _ ?_,
    served (k := .routeRead) (carries_nil _) rfl, fun start hstart => planList _ ?_,
    served (k := .planList) (carries_nil _) rfl, fun v hv => planList _ ?_,
    fun e he => readEpisode _ ?_, fun he => readEpisode _ ?_, fun j e hj he => readEpisode _ ?_,
    fun j h1 h4 hj => readEpisode _ ?_, fun v hv => readEpisode _ ?_,
    served (k := .readEpisode) (carries_nil _) rfl⟩
  · simp only [serveKind, serveReadCells, cellSummaries_eq]; rfl
  · refine served (k := .readCell) (carries_one rfl _) ?_
    simp only [serveKind, serveReadCell, slotField_slotByte]; rfl
  · refine served (k := .readCell) (carries_one rfl _) ?_
    simp only [serveKind, serveReadCell, slotField_none hv]; rfl
  · rw [toNat_ofNat_byte (by omega)]
    exact serveRouteRead_some (routeReadBytes_window s k)
  · exact serveRouteRead_some rfl
  · rw [toNat_ofNat_byte (by omega)]
    exact serveRouteRead_some (routeReadBytes_line s l)
  · exact serveRouteRead_none (routeReadBytes_none s h8 hv)
  · rw [toNat_ofNat_byte (by omega), servePlanList_one, if_pos hstart]
  · rw [servePlanList_one, if_neg (by omega)]
  · simp [serveReadEpisode_one, State.selectEpisode, he]
  · simp [serveReadEpisode_one, State.selectEpisode, he]
  · rw [toNat_ofNat_byte (by omega), serveReadEpisode_one, if_pos (by omega)]
    simp [State.selectEpisode, he]
  · rw [toNat_ofNat_byte (by omega), serveReadEpisode_one, if_pos h4, State.selectEpisode,
      if_neg (by omega), List.getElem?_eq_none (by omega)]
  · rw [serveReadEpisode_one, if_neg (by omega)]

end Sys2Proof.Machine
end

section
/-! An accepted CONFIGURE (R16, R170 to R172). -/

namespace Sys2Proof.Machine

/-- A pair's cross-check passes where the request carries neither field or the pair holds (R171). -/
theorem pairCheck_eq_true {q : Items} {x y : Nat} {holds : Bool} :
    (pairCheck q x y holds).1 = true ↔ (field q x ≠ none ∨ field q y ≠ none → holds = true) := by
  cases hx : field q x <;> cases hy : field q y <;> simp [pairCheck, pairField, hx, hy]

/-- A field's check passes where the field is absent or its value satisfies it. -/
theorem fieldOk_eq_true {q : Items} {id : Nat} {p : Nat → Bool} :
    fieldOk q id p = true ↔ ∀ v, field q id = some v → p v = true := by
  cases h : field q id <;> simp [fieldOk, h]

/-- CONFIGURE is accepted where every check passes (R170, R171). -/
theorem refuseConfigure_none {q : Items} {s : State}
    (hstate : s.drive.state = .unconfigured ∧ field q 1 ≠ none ∨
      (s.drive.state = .stopped ∨ s.drive.state = .halted) ∧ ∀ n, field q 1 = some n → s.config.n = some n)
    (hrange : ∀ id v, field q id = some v → paramOk ((configAfter q s.config).n.getD 0) id v = true)
    (htrip : field q 4 ≠ none ∨ field q 5 ≠ none →
      (configAfter q s.config).vTrip + 20 ≤ (configAfter q s.config).vRelease)
    (hover : field q 19 ≠ none ∨ field q 20 ≠ none →
      (configAfter q s.config).fLimit < (configAfter q s.config).fOver) :
    refuseConfigure q s = none := by
  unfold refuseConfigure
  simp only [firstRefusal_eq_none, List.forall_mem_append, List.forall_mem_cons, List.forall_mem_map,
    pairCheck_eq_true, fieldOk_eq_true, decide_eq_true_eq]
  refine ⟨⟨?_, fun id _ v hv => hrange id v hv⟩, htrip, hover, by simp⟩
  rcases hstate with ⟨hd, hn⟩ | ⟨hd, hn⟩
  · simpa [hd, Option.isSome_iff_ne_none] using hn
  · rcases hd with hd | hd <;> simpa [hd, fieldOk_eq_true] using hn

/-- Settles O27: every check passes, so the request leaves the configuration it carries. -/
theorem acceptedConfigureWritesItsFields : Obligations.AcceptedConfigureWritesItsFields := by
  intro tag p q s h hp get c hrange htrip hover
  have hget : ∀ id d, get id d = (field q id).getD d := fun id d => by
    cases hq : field q id <;> simp [get, hq]
  have hc : configAfter q s.config = c := by
    cases hq : field q 1 <;> simp [configAfter, c, hget, hq]
  have accepted (hr : refuseConfigure q s = none) : exec (.configure tag p) s =
      .next ((s.acceptConfig q).answered 0x01 tag (.ok (configBytes (s.acceptConfig q)))) :=
    request_accepted (k := .configure) h hp (by simp only [serveKind, serveConfigure, hr, serveWith])
  refine ⟨fun n hd hn => ?_, fun hd hn => ?_⟩
  · intro t
    have ht : s.acceptConfig q = t := by
      rw [State.acceptConfig, hc, if_pos hd]
      have hcn : State.n { s with config := c } = n := by simp [State.n, c, hn]
      simp only [State.firstConfigure, hcn]
      rfl
    rw [accepted (refuseConfigure_none (.inl ⟨hd, by simp [hn]⟩) (hc ▸ hrange) (hc ▸ htrip)
      (hc ▸ hover)), ht]
  · have ht : s.acceptConfig q = { s with config := c } := by
      rw [State.acceptConfig, hc, if_neg (by rcases hd with hd | hd <;> simp [hd])]
    rw [accepted (refuseConfigure_none (.inr ⟨hd, hn⟩) (hc ▸ hrange) (hc ▸ htrip) (hc ▸ hover)), ht]

/-! ## REFERENCE in HANDOVER -/

/-- The value of bytes fits them. -/
theorem valueOf_lt (l : List Byte) : valueOf l < 256 ^ l.length := by
  induction l using List.reverseRecOn with
  | nil => simp [valueOf]
  | append_singleton l b ih =>
    have hb := b.isLt
    simp only [valueOf, List.foldl_append, List.foldl_cons, List.foldl_nil, List.length_append,
      List.length_singleton, Nat.pow_succ] at ih ⊢
    omega

/-- The items of a payload have their kinds' sizes, and each value fits its size (R177). -/
theorem parseItems_fit {k : RequestKind} {n : Nat} {p : List Byte} {q : Items}
    (h : parseItems k n p = some q) : ∀ x ∈ q, ∃ size, fieldSize k x.1 = some size ∧ x.2 < 256 ^ size := by
  induction n generalizing p q with
  | zero => cases p <;> simp_all [parseItems]
  | succ n ih =>
    cases p with
    | nil => simp_all [parseItems]
    | cons id rest =>
      rw [parseItems] at h
      cases hsize : fieldSize k id.toNat with
      | none => simp [hsize] at h
      | some size =>
        cases hrest : parseItems k n (rest.drop size) with
        | none => simp [hsize, hrest] at h
        | some q' =>
          simp only [hsize, hrest] at h
          split at h
          · simp at h
          · next hlong =>
            split at h
            · simp at h
            · cases h
              refine List.forall_mem_cons.mpr ⟨⟨size, hsize, ?_⟩, ih hrest⟩
              simpa [Nat.min_eq_left (Nat.not_lt.mp hlong)] using valueOf_lt (rest.take size)

/-- A field's value fits the size its kind gives it. -/
theorem carries.field_lt {k : RequestKind} {p : List Byte} {q : Items} (h : carries k p q) {id v size : Nat}
    (hv : field q id = some v) (hsize : fieldSize k id = some size) : v < 256 ^ size := by
  obtain ⟨n, hn, hlt⟩ := parseItems_fit h.1 _ (field_mem hv)
  rw [hsize] at hn
  cases hn
  exact hlt

/-- The applied frequency differs from the demand exactly where the demand lies beyond the limit (R122). -/
theorem clamped_iff (f : Int) (limit : Nat) :
    limit < f.natAbs ↔ max (-(limit : Int)) (min (limit : Int) f) ≠ f := by
  omega

/-- A two-byte value other than 0x8000 is no less than -32767. -/
theorem signed16_ge {w : Nat} (hlt : w < 256 ^ 2) (hw : w ≠ 0x8000) : -32767 ≤ signed16 w := by
  simp only [signed16, BitVec.toInt, BitVec.toNat_ofNat]
  omega

/-- REFERENCE is accepted in HANDOVER with both fields in their ranges (R137). -/
theorem refuseReference_none {q : Items} {s : State} {u w : Nat}
    (hd : s.drive.state = .riding) (hphase : s.phase = some .handover) (hu : field q 1 = some u)
    (hw : field q 2 = some w) (hu2 : u ≤ 1200) (hw2 : -32767 ≤ signed16 w) :
    refuseReference q s = none := by
  rw [refuseReference, if_pos (.inr ⟨hd, hphase⟩)]
  simp [firstAbsent, hu, hw, fieldD, hu2, hw2, firstRefusal_nil]

/-- The open record closed: it enters the history as entry 1 (R90). -/
theorem State.closeRecord_of_some {e : EpisodeRecord} {s : State} (h : s.episode.current = some e)
    (o : EpisodeOutcome) : s.closeRecord o = { s with episode := { s.episode with
      current := none
      history :=
        ({ e with outcome := some o, closed := some s.partTime } :: s.episode.history).take 4 } } := by
  simp only [State.closeRecord, h, Config.historyCapacity]

/-- REFERENCE's reply in bytes (R138, R177). -/
theorem referenceBytes_eq (r : Reference) : referenceBytes r =
    [1] ++ bigEndian 2 r.mag ++ [2] ++ bigEndian 2 (r.freq % 2 ^ 16).toNat ++
      [3, if r.limited then 1 else 0, 4, if r.clamped then 1 else 0] := by
  rw [referenceBytes, byte2_eq, byte2s_eq]
  cases r.limited <;> cases r.clamped <;> simp [item, byte1, flagBit]

/-- The RESTORED close written out (R75, R90). -/
theorem State.closeRestored_of_some {e : EpisodeRecord} {s : State} (h : s.episode.current = some e)
    (r : Reference) : s.closeRestored r =
      let t := s.stopTimers.offer (.episodeClosed e.number none)
      State.startAllFaulted (fun _ => true) { t with
        episode := { t.episode with
          current := none
          history := ({ e with outcome := some .restored, closed := some s.partTime } ::
            s.episode.history).take 4 }
        outputs := { t.outputs with rideActive := false }
        drive := { s.drive with
          state := .running
          reference := some r
          supervision := some { start := s.partTime, length := 1000 * s.config.supervision } }
        mod := { s.mod with mag := r.mag, freq := r.freq, rampPos := 0, rampDone := false } } := by
  simp only [State.closeRestored, h]
  rw [State.closeRecord_of_some (e := e) (by simp [h])]
  simp [State.setRide, State.timer]

/-- Settles O33: the request passes its checks and closes the episode. -/
theorem referenceInHandoverRestores : Obligations.ReferenceInHandoverRestores := by
  intro tag p q s e u w h hp hd he hphase hu hw hu2 hw2
  have hsigned := signed16_ge (hp.field_lt hw rfl) hw2
  have hr : refuseReference q s = none :=
    refuseReference_none hd (by simp [State.phase, he, hphase]) hu hw hu2 hsigned
  have href : s.referenceOf q = referenceFrom u (signed16 w) s.ratio s.config.fLimit s.partTime := by
    simp [State.referenceOf, fieldD, hu, hw]
  have accepted : exec (.reference tag p) s = .next ((s.closeRestored (s.referenceOf q)).answered 0x06 tag
      (.ok (referenceBytes (s.referenceOf q)))) :=
    request_accepted (k := .reference) h hp
      (by simp only [serveKind, serveReference, hr, serveWith, State.acceptReference, hd])
  refine ⟨s.referenceOf q, by rw [href]; rfl, by rw [href]; rfl, by rw [href]; rfl, by rw [href]; rfl,
    by rw [href]; rfl, ?_, by rw [href]; rfl, ?_⟩
  · rw [href]
    exact decide_eq_decide.mpr (clamped_iff _ _)
  · rw [accepted, referenceBytes_eq, State.closeRestored_of_some he]
    rfl

end Sys2Proof.Machine
end

section
/-! Slots and their contactors: a change of state, the feedback sample and the timeouts (R3 to R15). -/

namespace Sys2Proof.Machine

/-! ## A slot enters a state -/

/-- The entry of a slot after it enters a state (R64). -/
theorem InvolvedEntry.follow_entered (v : InvolvedEntry) (i : Slot) (r : SlotRecord) (x : SlotState)
    (now : PartTime) (timeout : Nat) : v.follow i (r.entered x now timeout) =
      if v.slot ≠ i then v
      else if x = .bypassed then { v with outcome := .bypassed, closeTime := r.contactor.lastClose }
      else if x = .stuck then { v with outcome := .stuck }
      else v := by
  by_cases h : v.slot = i
  · cases x <;> simp [InvolvedEntry.follow, SlotRecord.entered, Contactor.driven, h]
  · simp [InvolvedEntry.follow, h]

/-- The notice of a slot's change of state joins the queue that stood before (R24). -/
theorem State.enterState_notices (i : Slot) (x : SlotState) (c : Code) (s : State) :
    (s.enterState i x c).notices = (s.offer (.cellState i (s.slot i).state x c)).notices := by
  simp [State.enterState, State.offer_notices]

/-- A pending fault is discarded as a slot leaves ACTIVE and PARKED (R21). -/
theorem SlotRecord.entered_fault (r : SlotRecord) (x : SlotState) (now : PartTime) (timeout : Nat) :
    (r.entered x now timeout).fault = { r.fault with
      pending :=
        if (r.state = .active ∨ r.state = .parked) ∧ x ≠ .active ∧ x ≠ .parked then none
        else r.fault.pending } := by
  have hleaves : (r.state.candidate && !x.candidate) = true ↔
      (r.state = .active ∨ r.state = .parked) ∧ x ≠ .active ∧ x ≠ .parked := by
    simp [SlotState.candidate]
  simp only [SlotRecord.entered, hleaves]
  split <;> rfl

/-- The pulse operation of a slot that enters a state (R5, R6). -/
theorem Contactor.driven_eq (c : Contactor) (x : SlotState) (now : PartTime) (timeout : Nat) :
    c.driven x now timeout = { c with
      closeLine := decide (x = .bypassing)
      openLine := decide (x = .returning)
      pulse :=
        if x = .bypassing then some
          { kind := .close, asserted := now, timeout := timeout, judge := decide (c.feedback = .closed) }
        else if x = .returning then some
          { kind := .opening, asserted := now, timeout := timeout, judge := decide (c.feedback = .opened) }
        else none } := by
  cases x <;> rfl

/-- Settles O35, from the lemma about each field. -/
theorem enteringAStateDrivesTheContactor : Obligations.EnteringAStateDrivesTheContactor := by
  intro i x c s t r
  have hslot : t.slot i = r.entered x s.partTime s.config.bypassTimeout :=
    (State.enterState_slot i i x c s).trans (if_pos rfl)
  refine ⟨by rw [hslot]; rfl, by rw [hslot, ← Contactor.driven_eq]; rfl, by rw [hslot]; rfl,
    by rw [hslot, SlotRecord.entered_fault], by rw [hslot]; rfl,
    fun j hj => (State.enterState_slot i j x c s).trans (if_neg (Ne.symm hj)), ?_,
    State.enterState_notices i x c s, by simp [t]⟩
  simp only [t, State.enterState_episode, InvolvedEntry.follow_entered]
  rfl

/-! ## The feedback sample -/

/-- A sample equal to the debounced value (R3). -/
theorem Contactor.debounce_same {c : Contactor} {x : Feedback} (h : x = c.feedback) (now : PartTime) :
    c.debounce x now = { c with run := 0, sampledAt := now } := if_pos h

/-- The first or second sample of a run that differs (R3). -/
theorem Contactor.debounce_differs {c : Contactor} {x : Feedback} (h : x ≠ c.feedback) (hrun : c.run < 2)
    (now : PartTime) : c.debounce x now = { c with
      run := c.run + 1, runStart := if c.run = 0 then now else c.runStart, sampledAt := now } := by
  rw [Contactor.debounce, if_neg h]
  exact if_neg (by omega)

/-- The third sample of a run that differs (R3). -/
theorem Contactor.debounce_became {c : Contactor} {x : Feedback} (h : x ≠ c.feedback) (hrun : 2 ≤ c.run)
    (now : PartTime) : c.debounce x now = { c with
      feedback := x, run := 0, runStart := if c.run = 0 then now else c.runStart, sampledAt := now } := by
  rw [Contactor.debounce, if_neg h]
  exact if_pos (by omega)

/-- A feedback sample at its time: the debounce step, then its effect (R3). -/
theorem execFeedbackSample_eq {i : Slot} {high : Bool} {s : State} (hs : s.inReset = false)
    (ht : 100 ≤ (s.partTime - (s.slot i).contactor.sampledAt).toNat) :
    exec (.feedbackSample i high) s = .next (State.feedbackEffect i (s.slot i).contactor
      (s.setSlot i { s.slot i with
        contactor := (s.slot i).contactor.debounce (if high then .closed else .opened) s.partTime })) := by
  show live (State.feedbackSample i high) s = _
  rw [live_of_not_inReset hs, State.feedbackSample, State.reach_of_le ht]
  rfl

/-- In a slot with no pulse operation only a debounced value that becomes an anomaly has an effect (R12,
R13). -/
theorem State.feedbackEffect_idle {i : Slot} {before : Contactor} {s : State}
    (hpulse : (s.slot i).contactor.pulse = none)
    (h : before.feedback ≠ (s.slot i).contactor.feedback →
      ((s.slot i).contactor.feedback = .opened → (s.slot i).state ≠ .bypassed) ∧
      ((s.slot i).contactor.feedback = .closed →
        (s.slot i).state ≠ .active ∧ (s.slot i).state ≠ .parked ∧ (s.slot i).state ≠ .faulted)) :
    s.feedbackEffect i before = s := by
  unfold State.feedbackEffect
  cases hx : (s.slot i).state <;> simp_all

/-- A value that became CLOSED in ACTIVE, PARKED or FAULTED (R12). -/
theorem State.feedbackEffect_closed {i : Slot} {before : Contactor} {s : State}
    (hbefore : before.feedback = .opened) (hafter : (s.slot i).contactor.feedback = .closed)
    (hx : (s.slot i).state = .active ∨ (s.slot i).state = .parked ∨ (s.slot i).state = .faulted) :
    s.feedbackEffect i before = s.stick i 0x4002 := by
  rcases hx with hx | hx | hx <;> simp [State.feedbackEffect, hx, hbefore, hafter]

/-- A value that became OPEN in BYPASSED (R12). -/
theorem State.feedbackEffect_opened {i : Slot} {before : Contactor} {s : State}
    (hbefore : before.feedback = .closed) (hafter : (s.slot i).contactor.feedback = .opened)
    (hx : (s.slot i).state = .bypassed) : s.feedbackEffect i before = s.stick i 0x4001 := by
  simp [State.feedbackEffect, hx, hbefore, hafter]

/-- Settles O38: the debounce step of each case, then the effect of the value it leaves. -/
theorem feedbackIsDebounced : Obligations.FeedbackIsDebounced := by
  intro i high s hs ht hpulse r c x start became
  have hexec := execFeedbackSample_eq (high := high) hs ht
  have hbecame (hx : x ≠ c.feedback) (hrun : 2 ≤ c.run) :
      exec (.feedbackSample i high) s = .next (became.feedbackEffect i c) := by
    rw [hexec, Contactor.debounce_became hx hrun]
  refine ⟨fun hx => ?_, fun hx hrun => ?_, fun hx hrun hstate => ?_, fun hx hrun hstate => ?_,
    fun hx hc hrun hstate => ?_, fun hx hc hrun hstate => ?_⟩
  · rw [hexec, Contactor.debounce_same hx, State.feedbackEffect_idle (by simpa using hpulse)
      (fun h => (h (by simp [c, r])).elim)]
  · rw [hexec, Contactor.debounce_differs hx hrun, State.feedbackEffect_idle (by simpa using hpulse)
      (fun h => (h (by simp [c, r])).elim)]
  · rw [hbecame hx hrun, State.feedbackEffect_idle (by simpa [became] using hpulse)]
    rcases hstate with hstate | hstate <;> simp [became, hstate]
  · rw [hbecame hx hrun, State.feedbackEffect_idle (by simpa [became] using hpulse)]
    rcases hstate with ⟨hx, hstate⟩ | ⟨hx, hstate | hstate | hstate⟩ <;> simp [became, hstate, hx]
  · rw [hbecame (by simp [hx, hc]) hrun]
    exact congrArg _ (State.feedbackEffect_closed hc (by simpa [became] using hx)
      (by simpa [became] using hstate))
  · rw [hbecame (by simp [hx, hc]) hrun]
    exact congrArg _ (State.feedbackEffect_opened hc (by simpa [became] using hx)
      (by simpa [became] using hstate))

/-! ## Pulse operations -/

/-- The debounce step in one equation (R3). -/
theorem Contactor.debounce_eq (c : Contactor) (x : Feedback) (now : PartTime) :
    c.debounce x now = { c with
      feedback := if x ≠ c.feedback ∧ 2 ≤ c.run then x else c.feedback
      run := if x = c.feedback ∨ 2 ≤ c.run then 0 else c.run + 1
      runStart := if x = c.feedback then c.runStart else if c.run = 0 then now else c.runStart
      sampledAt := now } := by
  by_cases hx : x = c.feedback
  · rw [Contactor.debounce_same hx]
    simp [hx]
  · rcases Nat.lt_or_ge c.run 2 with hrun | hrun
    · simp [Contactor.debounce_differs hx hrun, hx, Nat.not_le.mpr hrun]
    · simp [Contactor.debounce_became hx hrun, hx, hrun]

/-- A sample completes a pulse operation if it leaves the awaited value, either judged at the first sample or
become at this one (R8, R10). -/
theorem judgePulse_eq (p : PulseOp) (target : Feedback) (before after : Contactor) (now : PartTime) :
    judgePulse p target before after now =
      if after.feedback = target ∧ (p.judge = true ∨ before.feedback ≠ after.feedback) then
        .complete (if p.judge then 0 else pulseTime p.asserted after.runStart now)
      else .goOn := by
  unfold judgePulse
  cases p.judge <;> simp [and_comm]

/-- A sample that completes the bypass of a slot in BYPASSING (R8). -/
theorem State.feedbackEffect_completeBypass {i : Slot} {before : Contactor} {p : PulseOp} {n : Nat}
    {s : State}
    (hx : (s.slot i).state = .bypassing) (hp : (s.slot i).contactor.pulse = some p)
    (hjudge : judgePulse p .closed before (s.slot i).contactor s.partTime = .complete n) :
    s.feedbackEffect i before = s.completeBypass i n := by
  simp only [State.feedbackEffect, hx, hp, hjudge]

/-- A sample that completes the return of a slot in RETURNING (R10). -/
theorem State.feedbackEffect_completeReturn {i : Slot} {before : Contactor} {p : PulseOp} {n : Nat}
    {s : State}
    (hx : (s.slot i).state = .returning) (hp : (s.slot i).contactor.pulse = some p)
    (hjudge : judgePulse p .opened before (s.slot i).contactor s.partTime = .complete n) :
    s.feedbackEffect i before = s.completeReturn i n := by
  simp only [State.feedbackEffect, hx, hp, hjudge]

/-- A sample that lets the operation of its slot go on (R8, R10). -/
theorem State.feedbackEffect_goesOn {i : Slot} {before : Contactor} {p : PulseOp} {target : Feedback}
    {s : State} (hx : (s.slot i).state = .bypassing ∧ target = .closed ∨
      (s.slot i).state = .returning ∧ target = .opened)
    (hp : (s.slot i).contactor.pulse = some p)
    (hjudge : judgePulse p target before (s.slot i).contactor s.partTime = .goOn) :
    s.feedbackEffect i before = s.pulseGoesOn i := by
  rcases hx with ⟨hx, rfl⟩ | ⟨hx, rfl⟩ <;> simp only [State.feedbackEffect, hx, hp, hjudge]

/-- A bypass that completes in a slot just sampled (R8, R68). -/
theorem State.completeBypass_setSlot (i : Slot) (n : Nat) (r : SlotRecord) (s : State) :
    (s.setSlot i r).completeBypass i n =
      let t := (s.setSlot i { r with contactor := { r.contactor with lastClose := some n } }).enterState i
        .bypassed 0
      if t.listed i then t.checkBypass else t := by
  simp only [State.completeBypass, State.setSlot_slot_self, State.setSlot_setSlot]

/-- A return that completes in a slot just sampled (R10). -/
theorem State.completeReturn_setSlot (i : Slot) (n : Nat) (r : SlotRecord) (s : State) :
    (s.setSlot i r).completeReturn i n =
      (s.setSlot i { r with contactor := { r.contactor with lastOpen := some n } }).enterState i
        .active 0 := by
  simp only [State.completeReturn, State.setSlot_slot_self, State.setSlot_setSlot]

/-- A pulse operation that goes on in a slot just sampled. -/
theorem State.pulseGoesOn_setSlot {i : Slot} {p : PulseOp} {r : SlotRecord} (hp : r.contactor.pulse = some p)
    (s : State) : (s.setSlot i r).pulseGoesOn i =
      s.setSlot i { r with contactor := { r.contactor with pulse := some { p with judge := false } } } := by
  simp only [State.pulseGoesOn, State.setSlot_slot_self, State.setSlot_setSlot, hp, Option.map_some]

/-- Settles O39: the debounce step, the judgement of the pulse operation, and what it leads to. -/
theorem feedbackCompletesPulseOperations : Obligations.FeedbackCompletesPulseOperations := by
  intro i high p s hs ht hpulse r c x start became value debounced measured time completes goesOn checked
  have hexec : exec (.feedbackSample i high) s =
      .next ((s.setSlot i { r with contactor := debounced }).feedbackEffect i c) := by
    rw [execFeedbackSample_eq hs ht, Contactor.debounce_eq]
  have hjudge (target : Feedback) : judgePulse p target c debounced s.partTime =
      if completes target then .complete time else .goOn := by
    have hvalue : c.feedback ≠ value ↔ became := by
      simp only [value, became]
      split
      · next h => exact iff_of_true (Ne.symm h.1) h
      · next h => exact iff_of_false (fun h => h rfl) h
    rw [judgePulse_eq]
    have hiff : (debounced.feedback = target ∧ (p.judge = true ∨ c.feedback ≠ debounced.feedback)) ↔
        completes target := and_congr_right fun _ => or_congr_right hvalue
    by_cases hdone : completes target
    · have htime : (if p.judge then 0 else pulseTime p.asserted debounced.runStart s.partTime) = time := by
        cases hj : p.judge with
        | true => simp [time, hj]
        | false =>
          have hdiffers : x ≠ c.feedback := (hdone.2.resolve_left (by simp [hj])).1
          simp only [time, hj, debounced, if_neg hdiffers]
          rfl
      rw [if_pos hdone, if_pos (hiff.mpr hdone), htime]
    · rw [if_neg hdone, if_neg (mt hiff.mp hdone)]
  have hslot : (s.setSlot i { r with contactor := debounced }).slot i = { r with contactor := debounced } :=
    State.setSlot_slot_self ..
  have hgoesOn (target : Feedback) (hx : r.state = .bypassing ∧ target = .closed ∨
      r.state = .returning ∧ target = .opened) (hdone : ¬completes target) :
      exec (.feedbackSample i high) s = .next goesOn := by
    rw [hexec, State.feedbackEffect_goesOn (target := target) (p := p) (by simpa only [hslot] using hx)
      (by simpa only [hslot] using hpulse) (by rw [hslot]; exact (hjudge target).trans (if_neg hdone))]
    exact congrArg _ (State.pulseGoesOn_setSlot (r := { r with contactor := debounced }) hpulse s)
  refine ⟨fun hx hdone => ?_, fun hx hdone => ?_, ?_⟩
  · rw [hexec, State.feedbackEffect_completeBypass (p := p) (by simpa only [hslot] using hx)
      (by simpa only [hslot] using hpulse) (by rw [hslot]; exact (hjudge _).trans (if_pos hdone))]
    exact congrArg _ (State.completeBypass_setSlot ..)
  · rw [hexec, State.feedbackEffect_completeReturn (p := p) (by simpa only [hslot] using hx)
      (by simpa only [hslot] using hpulse) (by rw [hslot]; exact (hjudge _).trans (if_pos hdone))]
    exact congrArg _ (State.completeReturn_setSlot ..)
  · rintro (⟨hx, hdone⟩ | ⟨hx, hdone⟩)
    · exact hgoesOn .closed (.inl ⟨hx, rfl⟩) hdone
    · exact hgoesOn .opened (.inr ⟨hx, rfl⟩) hdone

/-! ## Timeouts and bypass codes -/

/-- A bypass code acts in RUNNING and RIDING alone (R15). -/
theorem State.presentBypassCode_idle {c : Code} {s : State}
    (h : s.drive.state = .stopped ∨ s.drive.state = .halted) : s.presentBypassCode c = s := by
  rcases h with h | h <;> simp only [State.presentBypassCode, h]

/-- An anomaly's code halts the drive in RUNNING (R15). -/
theorem State.presentBypassCode_running {c : Code} {s : State} (h : s.drive.state = .running)
    (hc : c ≠ 0x4003) : s.presentBypassCode c = s.halt c := by
  simp only [State.presentBypassCode, h, if_neg hc]

/-- A bypass code fails the open episode in RIDING (R15, R87). -/
theorem State.presentBypassCode_riding {c : Code} {s : State} (h : s.drive.state = .riding) :
    s.presentBypassCode c = s.failEpisode (if c = 0x4003 then .bypassTimeout else .bypassLost) c := by
  simp only [State.presentBypassCode, h]

/-- A pulse operation's timeout at its time, in the state it waits in (R9, R11). -/
theorem State.pulseTimeout_due {x : SlotState} {i : Slot} {p : PulseOp} {s : State}
    (hp : (s.slot i).contactor.pulse = some p) (hx : (s.slot i).state = x)
    (hdue : 1000 * p.timeout ≤ (s.partTime - p.asserted).toNat) :
    s.pulseTimeout x i = s.stick i 0x4003 := by
  simp only [State.pulseTimeout, hp, hx, PulseOp.due_eq_true, hdue, and_self, if_true]

/-- Settles O40: the timeout sticks the slot, and the code then acts by the drive state. -/
theorem pulseTimeoutsStickTheSlot : Obligations.PulseTimeoutsStickTheSlot := by
  refine ⟨fun i p s hs hp hdue => ⟨fun hx => ?_, fun hx => ?_⟩,
    fun i c s hc => ⟨fun hd => ?_, fun hd h4003 => ?_, fun hd => ?_⟩⟩
  · exact (live_of_not_inReset hs).trans (congrArg _ (State.pulseTimeout_due hp hx hdue))
  · exact (live_of_not_inReset hs).trans (congrArg _ (State.pulseTimeout_due hp hx hdue))
  · exact State.presentBypassCode_idle (by simpa using hd)
  · exact State.presentBypassCode_running (by simpa using hd) h4003
  · exact State.presentBypassCode_riding (by simpa using hd)

end Sys2Proof.Machine
end

section
/-! The device reset, and the failure of an episode (R2, R76, R85, R89, R90, R128). -/

namespace Sys2Proof.Machine

/-! ## The device reset -/

/-- The part in a device reset is the reset state but for what the reset leaves. -/
theorem State.deviceReset_slot (i : Slot) (s : State) : s.deviceReset.slot i = {} := by
  simp [State.slot, State.deviceReset, State.reset]

theorem State.deviceReset_line (l : ExtLine) (s : State) : s.deviceReset.line l = {} := by
  simp [State.line, State.deviceReset, State.reset]

/-- Settles O4: each block's reset values are the defaults of its fields. -/
theorem deviceResetRestoresEveryBlock : Obligations.DeviceResetRestoresEveryBlock := by
  intro mv rn s
  refine ⟨fun hmv hrn => ?_, fun h => ⟨s.deviceReset, ?_, ?_⟩⟩
  · have hasked : resetAsked mv rn = false := by simp [resetAsked, hmv, hrn]
    simp [exec, execDeviceReset, hasked]
  · have hasked : resetAsked mv rn = true := by simpa [resetAsked] using h
    simp [exec, execDeviceReset, hasked]
  · refine ⟨rfl, rfl, rfl, rfl, rfl, rfl, rfl, fun i => ?_, fun l => s.deviceReset_line l, fun k => ?_,
      rfl, rfl, rfl, rfl, rfl, rfl, rfl, rfl, rfl⟩
    · rw [State.deviceReset_slot]
      exact ⟨rfl, rfl, rfl, rfl, rfl⟩
    · simp [State.deviceReset, State.reset]

/-- Settles O6: every condition evaluated on the reset state. -/
theorem resetStateIsSound : Obligations.ResetStateIsSound := by
  have hmode : ModeSound State.reset := ⟨iff_of_true rfl rfl, rfl⟩
  have hlink : LinkBounded State.reset := ⟨by decide, by decide, fun h => absurd rfl h, by decide⟩
  have hnotices : NoticesBounded State.reset := ⟨by decide, by decide, by decide, by decide, rfl⟩
  have hlines : LinesFollowDrive State.reset := ⟨rfl, rfl, rfl, rfl, rfl, rfl, nofun⟩
  have hconfig : ConfigInRange State.reset.config := by constructor <;> simp [State.reset]
  have hepisodes : EpisodesSound State.reset :=
    { capacity := by decide
      riding := rfl
      counter := by decide
      opened := fun e he => by cases he
      idle := fun _ => ⟨rfl, rfl, rfl⟩
      history := by decide
      closed := by simp [State.reset] }
  have hmagnitude : MagnitudeSound State.reset :=
    { riding := rfl
      running := nofun
      applied := Nat.le_refl 0
      reference := fun r hr => by cases hr
      capture := fun e c he => by cases he
      blocked := fun e he => by cases he
      ramp := nofun }
  exact ⟨hlink, hnotices, hlines, slotsConsistent_of_reset rfl rfl rfl rfl, ⟨hmode, hconfig⟩,
    ⟨hmode, by decide, .nil, nofun⟩, hepisodes, hmagnitude⟩

/-! ## The failure of an episode -/

/-- The failure path written out (R89, R90). -/
theorem State.failEpisode_of_some {e : EpisodeRecord} {s : State} (h : s.episode.current = some e)
    (cause : FailureCause) (code : Code) : s.failEpisode cause code =
      let t := s.stopTimers.abandonRamp.offer (.episodeClosed e.number (some cause))
      State.startAllFaulted (fun _ => true)
        (State.offer (.driveState .halted code) { t with
          episode := { t.episode with
            current := none
            history := ({ e with outcome := some (.failed cause code), closed := some s.partTime } ::
              s.episode.history).take 4 }
          drive := { s.drive with state := .halted, haltCause := some code }
          outputs := { t.outputs with brkDemand := true, rideActive := false } }) := by
  simp only [State.failEpisode, h]
  rw [State.closeRecord_of_some (e := e) (by simp [h])]
  simp [State.setRide, State.setHalted]

/-- Timers that a failure stops need not stand before it. -/
theorem State.failEpisode_timers {e : EpisodeRecord} {s : State} (h : s.episode.current = some e)
    (settle window handover : Option Timer) (cause : FailureCause) (code : Code) :
    State.failEpisode cause code { s with episode := { s.episode with
      settle := settle, window := window, handover := handover } } = s.failEpisode cause code := by
  refine (State.failEpisode_of_some (e := e) (s := { s with episode := { s.episode with
    settle := settle, window := window, handover := handover } }) h cause code).trans ?_
  rw [State.failEpisode_of_some h]
  rfl

/-- Settles O57. -/
theorem failuresCloseTheEpisode : Obligations.FailuresCloseTheEpisode := by
  intro e s he
  refine ⟨fun cause code => State.failEpisode_of_some he cause code, fun t hs ht hdue => ?_,
    fun t hs ht hdue => ?_⟩
  · have hexpiry : s.windowExpiry = s.failEpisode .window 0x6001 := by
      simp only [State.windowExpiry, ht, Timer.due_eq_true, hdue, if_true]
      exact State.failEpisode_timers he ..
    exact (live_of_not_inReset hs).trans (congrArg _ hexpiry)
  · have hexpiry : s.handoverExpiry = s.failEpisode .handoverTimeout 0x6004 := by
      simp only [State.handoverExpiry, ht, Timer.due_eq_true, hdue, if_true]
      exact State.failEpisode_timers he ..
    exact (live_of_not_inReset hs).trans (congrArg _ hexpiry)

end Sys2Proof.Machine
end

section
/-! Operations on every slot in slot order that let some slots enter a state (R7, R67 to R69, R105). -/

namespace Sys2Proof.Machine

/-! ## One pass over the slots -/

/-- A slot that meets a condition on its record enters the state the pass has for it. Both the start of the
bypasses that wait and a commit's changes of state are such a pass over all slots. -/
def enterIf (c : Slot → SlotRecord → Bool) (x : Slot → SlotState) (cause : SlotRecord → Code) (i : Slot)
    (t : State) : State :=
  if c i (t.slot i) = true then t.enterState i (x i) (cause (t.slot i)) else t

/-- The start of the waiting bypasses is a pass over the slots (R7). -/
theorem State.startAllFaulted_eq (p : Slot → Bool) (s : State) :
    s.startAllFaulted p = s.eachSlot (enterIf (fun i r => decide (r.state = .faulted) && p i)
      (fun _ => .bypassing) SlotRecord.faultCause) := by
  unfold State.startAllFaulted
  congr 1
  funext i t
  simp [enterIf, State.startFaulted]

section Pass

variable (c : Slot → SlotRecord → Bool) (x : Slot → SlotState) (cause : SlotRecord → Code)

@[simp] theorem enterIf_frame (i : Slot) (t : State) :
    (enterIf c x cause i t).config = t.config ∧ (enterIf c x cause i t).partTime = t.partTime ∧
    (enterIf c x cause i t).outputs.brkDemand = t.outputs.brkDemand ∧
    (enterIf c x cause i t).outputs.rideActive = t.outputs.rideActive := by
  unfold enterIf; split <;> simp

theorem enterIf_slot (i j : Slot) (t : State) : (enterIf c x cause i t).slot j =
    if i = j ∧ c j (t.slot j) = true then (t.slot j).entered (x j) t.partTime t.config.bypassTimeout
    else t.slot j := by
  unfold enterIf
  by_cases hij : i = j
  · subst hij
    by_cases hc : c i (t.slot i) = true <;> simp [hc, State.enterState_slot]
  · by_cases hc : c i (t.slot i) = true <;> simp [hc, hij, State.enterState_slot]

/-- The slots after the pass over some slots: each that meets the condition has entered its state once. -/
theorem foldl_enterIf_slot {l : List Slot} (hl : l.Nodup) (s : State) (j : Slot) :
    (l.foldl (fun t i => enterIf c x cause i t) s).slot j =
      if j ∈ l ∧ c j (s.slot j) = true then (s.slot j).entered (x j) s.partTime s.config.bypassTimeout
      else s.slot j := by
  induction l generalizing s with
  | nil => simp
  | cons i l ih =>
    obtain ⟨hi, hl⟩ := List.nodup_cons.mp hl
    rw [List.foldl_cons, ih hl, enterIf_slot]
    simp only [enterIf_frame]
    by_cases hij : i = j
    · subst hij
      simp [hi]
    · simp [hij, Ne.symm hij]

theorem allSlots_nodup : allSlots.Nodup := by decide

theorem mem_allSlots (i : Slot) : i ∈ allSlots := by revert i; decide

/-- The slots after the pass over every slot. -/
theorem State.eachSlot_enterIf_slot (s : State) (j : Slot) : (s.eachSlot (enterIf c x cause)).slot j =
    if c j (s.slot j) = true then (s.slot j).entered (x j) s.partTime s.config.bypassTimeout
    else s.slot j := by
  rw [State.eachSlot, foldl_enterIf_slot c x cause allSlots_nodup]
  simp only [mem_allSlots, true_and]

/-- What a notice does to the queue depends on the queue and part time. -/
theorem State.offer_notices_congr {s t : State} (hq : t.notices = s.notices) (ht : t.partTime = s.partTime)
    (b : NoticeBody) : (t.offer b).notices = (s.offer b).notices := by
  rw [State.offer_notices, State.offer_notices, hq, ht]

/-- The notices of the pass over some slots are offered in the order of the slots (R24). -/
theorem foldl_enterIf_notices {l : List Slot} (hl : l.Nodup) {s : State} {t u : State}
    (hslot : ∀ i ∈ l, t.slot i = s.slot i) (hq : t.notices = u.notices) (ht : t.partTime = u.partTime) :
    (l.foldl (fun t i => enterIf c x cause i t) t).notices =
      (l.foldl (fun (u : State) i => if c i (s.slot i) = true then
        u.offer (.cellState i (s.slot i).state (x i) (cause (s.slot i))) else u) u).notices := by
  induction l generalizing t u with
  | nil => exact hq
  | cons i l ih =>
    obtain ⟨hi, hl⟩ := List.nodup_cons.mp hl
    rw [List.foldl_cons, List.foldl_cons]
    refine ih hl (fun j hj => ?_) ?_ ?_
    · rw [enterIf_slot, if_neg (fun h : i = j ∧ _ => hi (h.1 ▸ hj)), hslot j (.tail _ hj)]
    · simp only [enterIf, hslot i (.head _)]
      split
      · rw [State.enterState_notices, hslot i (.head _)]
        exact State.offer_notices_congr hq ht _
      · exact hq
    · rw [(enterIf_frame c x cause i t).2.1, ht]
      split <;> simp

/-- The notices of the pass over every slot. -/
theorem State.eachSlot_enterIf_notices (s : State) : (s.eachSlot (enterIf c x cause)).notices =
    ((List.finRange 27).foldl (fun (u : State) i => if c i (s.slot i) = true then
      u.offer (.cellState i (s.slot i).state (x i) (cause (s.slot i))) else u) s).notices := by
  rw [show List.finRange 27 = allSlots by decide]
  exact foldl_enterIf_notices c x cause allSlots_nodup (fun _ _ => rfl) rfl rfl

end Pass

/-! ## The pass and the episode -/

/-- An entry that does not follow its slot leaves the record as it is. -/
theorem State.followEntry_idle {i : Slot} {s : State} (h : ∀ v : InvolvedEntry, v.follow i (s.slot i) = v) :
    s.followEntry i = s := by
  unfold State.followEntry
  split
  · rfl
  · next e he =>
    have hmap : (e.involved.map fun v => v.follow i (s.slot i)) = e.involved := by simp [h]
    rw [hmap, ← he]

/-- A slot that enters a state other than BYPASSED and STUCK changes the slot and the notices alone (R64). -/
theorem State.enterState_eq {y : SlotState} (hb : y ≠ .bypassed) (hs : y ≠ .stuck) (i : Slot) (k : Code)
    (s : State) : s.enterState i y k =
      (s.setSlot i ((s.slot i).entered y s.partTime s.config.bypassTimeout)).offer
        (.cellState i (s.slot i).state y k) := by
  unfold State.enterState
  dsimp only
  rw [State.followEntry_idle fun v => ?_]
  rw [State.setSlot_slot_self, InvolvedEntry.follow_entered]
  simp [hb, hs]

theorem State.offer_setEpisode (b : NoticeBody) (s : State) (e : EpisodeCtl) :
    State.offer b { s with episode := e } = { s.offer b with episode := e } := by
  unfold State.offer
  dsimp only
  split
  · split <;> rfl
  · rfl

/-- Such a change of state does not read the episode either. -/
theorem State.enterState_setEpisode {y : SlotState} (hb : y ≠ .bypassed) (hs : y ≠ .stuck) (i : Slot)
    (k : Code) (s : State) (e : EpisodeCtl) :
    State.enterState i y k { s with episode := e } = { s.enterState i y k with episode := e } := by
  rw [State.enterState_eq hb hs, State.enterState_eq hb hs, ← State.offer_setEpisode]
  rfl

/-- A pass whose states are neither BYPASSED nor STUCK neither reads nor changes the episode. -/
theorem State.eachSlot_enterIf_setEpisode {c : Slot → SlotRecord → Bool} {x : Slot → SlotState}
    {cause : SlotRecord → Code} (hb : ∀ i, x i ≠ .bypassed) (hs : ∀ i, x i ≠ .stuck) (s : State)
    (e : EpisodeCtl) : State.eachSlot (enterIf c x cause) { s with episode := e } =
      { s.eachSlot (enterIf c x cause) with episode := e } := by
  have hstep (i : Slot) (t : State) :
      enterIf c x cause i { t with episode := e } = { enterIf c x cause i t with episode := e } := by
    unfold enterIf
    by_cases hc : c i (t.slot i) = true
    · rw [if_pos hc]
      exact (if_pos hc).trans (State.enterState_setEpisode (hb i) (hs i) ..)
    · rw [if_neg hc]
      exact if_neg hc
  unfold State.eachSlot
  induction allSlots generalizing s with
  | nil => rfl
  | cons i l ih => rw [List.foldl_cons, List.foldl_cons, hstep, ih]

theorem State.eachSlot_enterIf_episode {c : Slot → SlotRecord → Bool} {x : Slot → SlotState}
    {cause : SlotRecord → Code} (hb : ∀ i, x i ≠ .bypassed) (hs : ∀ i, x i ≠ .stuck) (s : State) :
    (s.eachSlot (enterIf c x cause)).episode = s.episode := by
  have hpass := State.eachSlot_enterIf_setEpisode (c := c) (cause := cause) hb hs s s.episode
  rw [show { s with episode := s.episode } = s from rfl] at hpass
  rw [hpass]

/-- The waiting bypasses start with the episode as it stands (R7). -/
theorem State.startAllFaulted_episode (p : Slot → Bool) (s : State) :
    (s.startAllFaulted p).episode = s.episode := by
  rw [State.startAllFaulted_eq, State.eachSlot_enterIf_episode (fun _ => by simp) (fun _ => by simp)]

/-! ## The commit and the episode -/

/-- A candidate that a commit changes: it is not yet in the state the commit gives it (R105). -/
def State.settles (s : State) (i : Slot) (r : SlotRecord) : Bool :=
  r.state.candidate && decide (r.state ≠ s.commitTarget i)

/-- The part with the candidates in their states, before the plan and the offsets are written. -/
def State.settled (s : State) : State :=
  s.eachSlot (enterIf s.settles s.commitTarget fun _ => 0)

/-- The plan, the offsets and the generation that a commit writes once the candidates are in their states. -/
def State.committedTo (p : CommittedPlan) (g : BitVec 2) (t : State) : State :=
  { State.writeOffsets { t with committed := some p } with sync := g }

/-- A commit settles the candidates and then writes what it commits (R102). -/
theorem State.commit_eq (s : State) : s.commit = s.settled.committedTo s.commitPlan (s.sync + 1) := by
  have hpass : (fun i t => settleCandidate (s.commitTarget i) i t) =
      enterIf s.settles s.commitTarget fun _ => 0 := by
    funext i t
    simp [settleCandidate, enterIf, State.settles]
  rw [State.settled, ← hpass, State.commit]
  generalize State.eachSlot _ _ = settled
  rfl

@[simp] theorem State.committedTo_frame (p : CommittedPlan) (g : BitVec 2) (t : State) :
    (t.committedTo p g).committed = some p ∧ (t.committedTo p g).sync = g ∧
    (t.committedTo p g).notices = t.notices ∧ (t.committedTo p g).outputs = t.outputs := by
  simp [State.committedTo]

/-- Each ACTIVE slot gets its carrier offset, and no other slot has one (R22, R125). -/
theorem State.committedTo_slot (p : CommittedPlan) (g : BitVec 2) (t : State) (i : Slot) :
    (t.committedTo p g).slot i = { t.slot i with
      offset :=
        if (t.slot i).state = .active then
          some (carrierOffset (slotPhase i) (t.countPhase (fun x => decide (x = .active)) (slotPhase i))
            (t.placeOf (fun x => decide (x = .active)) i) t.config.period)
        else none } :=
  (State.slot_congr (s := State.writeOffsets { t with committed := some p }) rfl i).trans
    (by rw [State.writeOffsets, State.mapSlots_slot]; rfl)

theorem State.committedTo_setEpisode (p : CommittedPlan) (g : BitVec 2) (t : State) (e : EpisodeCtl) :
    State.committedTo p g { t with episode := e } = { t.committedTo p g with episode := e } := rfl

theorem State.commitTarget_ne (s : State) (i : Slot) :
    s.commitTarget i ≠ .bypassed ∧ s.commitTarget i ≠ .stuck := by
  rcases s.commitTarget_cases i with h | h <;> simp [h]

/-- A commit neither reads nor changes the episode (R102). -/
theorem State.commit_setEpisode (s : State) (e : EpisodeCtl) :
    State.commit { s with episode := e } = { s.commit with episode := e } := by
  have hsettled : State.settled { s with episode := e } = { s.settled with episode := e } := by
    have hpass := State.eachSlot_enterIf_setEpisode (c := s.settles) (cause := fun _ => 0)
      (fun i => (s.commitTarget_ne i).1) (fun i => (s.commitTarget_ne i).2) s e
    have hsettles : State.settles { s with episode := e } = s.settles := rfl
    have htarget : State.commitTarget { s with episode := e } = s.commitTarget := rfl
    simp only [State.settled, hsettles, htarget, hpass]
  have hplan : State.commitPlan { s with episode := e } = s.commitPlan := rfl
  rw [State.commit_eq, State.commit_eq, hsettled, hplan, State.committedTo_setEpisode]

theorem State.commit_episode (s : State) : s.commit.episode = s.episode := by
  have hcommit := s.commit_setEpisode s.episode
  rw [show { s with episode := s.episode } = s from rfl] at hcommit
  rw [hcommit]

/-! ## From BYPASS to RECHARGE -/

/-- An involved cell that is not BYPASSED keeps the episode where it is (R68). -/
theorem State.checkBypass_idle {e : EpisodeRecord} {s : State} (he : s.episode.current = some e)
    (h : ¬(e.phase = .bypass ∧ ∀ v ∈ e.involved, v.outcome = .bypassed)) : s.checkBypass = s := by
  simp only [State.checkBypass, he]
  exact if_neg (by simpa using h)

/-- The last completed bypass takes the episode to PLAN (R68). -/
theorem State.checkBypass_done {e : EpisodeRecord} {s : State} (he : s.episode.current = some e)
    (hphase : e.phase = .bypass) (h : ∀ v ∈ e.involved, v.outcome = .bypassed) :
    s.checkBypass = s.enterPlan := by
  simp only [State.checkBypass, he]
  exact if_pos (by simpa [hphase] using h)

/-- The open episode's phase set, written out. -/
theorem State.setPhase_of_some {e : EpisodeRecord} {s : State} (he : s.episode.current = some e)
    (p : EpisodePhase) : s.setPhase p =
      { s with episode := { s.episode with current := some { e with phase := p } } } := by
  simp [State.setPhase, State.mapEpisode, he]

/-- A phase has too few candidates exactly where the smallest count lies below the minimum (R69). -/
theorem State.tooFew_iff (s : State) : s.tooFew = true ↔
    ∃ x, x < 3 ∧ s.countPhase SlotState.candidate x < s.config.minCells := by
  have hx : ∀ x, x < 3 ↔ x = 0 ∨ x = 1 ∨ x = 2 := by omega
  simp [State.tooFew, PlanKey.smallest, State.candidates, hx, or_and_right, exists_or]

/-- The entry to BYPASS, with an involved cell that is not BYPASSED (R67, R68). -/
theorem State.enterBypass_of_some {e : EpisodeRecord} {s : State} (he : s.episode.current = some e)
    (h : ∃ v ∈ e.involved, v.outcome ≠ .bypassed) :
    s.enterBypass = State.startAllFaulted (fun i => e.involved.any fun v => decide (v.slot = i)) { s with
      episode := { s.episode with settle := none, current := some { e with phase := .bypass } } } := by
  obtain ⟨v, hv, hout⟩ := h
  unfold State.enterBypass
  rw [State.setPhase_of_some he]
  exact State.checkBypass_idle (e := { e with phase := .bypass }) (by rw [State.startAllFaulted_episode])
    fun hdone => hout (hdone.2 v hv)

/-- Settles O55: the entry to BYPASS, the pass that starts the bypasses, and the check of each that
completes. -/
theorem bypassesLeadToThePlan : Obligations.BypassesLeadToThePlan := by
  refine ⟨fun e t s hs he hphase ht hdue hinvolved => ?_, fun p s => ?_, fun e s he => ?_⟩
  · have hexpiry : s.settleExpiry =
        State.enterBypass { s with episode := { s.episode with settle := none } } := by
      simp only [State.settleExpiry, ht, Timer.due_eq_true, hdue, if_true]
      exact if_pos (by simp [State.phase, he, hphase])
    refine (live_of_not_inReset hs).trans (congrArg _ (hexpiry.trans ?_))
    exact State.enterBypass_of_some (s := { s with episode := { s.episode with settle := none } }) he
      hinvolved
  · intro t
    refine ⟨fun i => ?_, ?_, fun i f hf => by rw [SlotRecord.faultCause, hf], ?_⟩
    · simp only [t, State.startAllFaulted_eq, State.eachSlot_enterIf_slot, State.enterState_slot, if_true]
      simp
    · have hstep : (fun (u : State) i => if (decide ((s.slot i).state = .faulted) && p i) = true then
            u.offer (.cellState i (s.slot i).state .bypassing (s.slot i).faultCause) else u) =
          fun u i => if (s.slot i).state = .faulted ∧ p i = true then
            u.offer (.cellState i .faulted .bypassing (s.slot i).faultCause) else u := by
        funext u i
        by_cases hi : (s.slot i).state = .faulted <;> simp [hi]
      simp only [t, State.startAllFaulted_eq, State.eachSlot_enterIf_notices, hstep]
    · exact ⟨by simp [t], by simp [t], by simp [t], State.startAllFaulted_episode p s⟩
  · intro done few planning
    have hplanning : s.setPhase .plan = planning := State.setPhase_of_some he _
    have hfew : few ↔ planning.tooFew = true := (State.tooFew_iff planning).symm
    refine ⟨fun h => State.checkBypass_idle he h, fun h hfew' => ?_, fun h hfew' => ?_⟩
    · rw [State.checkBypass_done he h.1 h.2, State.enterPlan, hplanning]
      exact if_pos (hfew.mp hfew')
    · rw [State.checkBypass_done he h.1 h.2, State.enterPlan, hplanning]
      refine (if_neg (mt hfew.mpr hfew')).trans ?_
      simp only [planning, State.commit_setEpisode]
      generalize s.commit = committed
      rfl

end Sys2Proof.Machine
end

section
/-! The commit (R102 to R106, R125). -/

namespace Sys2Proof.Machine

/-! ## The plan a commit finds -/

/-- No key stands before itself (R95). -/
theorem PlanKey.before_irrefl (k : PlanKey) : k.before k = false := by
  simp [PlanKey.before]

/-- The entries of a sound table are told apart by their keys (R95). -/
theorem PlansSound.eq_of_key {s : State} (h : PlansSound s) {e f : PlanEntry} (he : e ∈ s.plans)
    (hf : f ∈ s.plans) (hk : e.key = f.key) : e = f := by
  obtain ⟨-, -, hsorted, -⟩ := h
  have hnodup : (s.plans.map (·.key)).Nodup := List.pairwise_map.mpr <| hsorted.imp fun {a b} hab hk => by
    rw [hk, PlanKey.before_irrefl] at hab
    cases hab
  exact List.inj_on_of_nodup_map hnodup he hf hk

/-- The look-up of a key that stands in the table finds its entry (R102). -/
theorem State.planFor_of_mem {s : State} (h : PlansSound s) {e : PlanEntry} (he : e ∈ s.plans) :
    s.planFor e.key = some e := by
  cases hfound : s.planFor e.key with
  | none => simpa using List.find?_eq_none.mp hfound e he
  | some f =>
    have hkey : f.key = e.key := by simpa using List.find?_some hfound
    rw [h.eq_of_key (List.mem_of_find?_eq_some hfound) he hkey]

/-- The look-up of a key that no entry has finds none (R102). -/
theorem State.planFor_none {s : State} {k : PlanKey} (h : ∀ e ∈ s.plans, e.key ≠ k) :
    s.planFor k = none := List.find?_eq_none.mpr (by simpa using h)

/-- On a hit every candidate is to be ACTIVE (R103). -/
theorem State.commitTarget_hit {s : State} {e : PlanEntry} (h : s.planFor s.candidates = some e) (i : Slot) :
    s.commitTarget i = .active := by simp only [State.commitTarget, h]

/-- On a miss the lowest candidates of each phase are to be ACTIVE (R104). -/
theorem State.commitTarget_miss {s : State} (h : s.planFor s.candidates = none) (i : Slot) :
    s.commitTarget i =
      if s.placeOf SlotState.candidate i < s.candidates.smallest then .active else .parked := by
  simp only [State.commitTarget, h]

/-! ## The slots after a commit -/

theorem State.settled_slot (s : State) (i : Slot) : s.settled.slot i =
    if s.settles i (s.slot i) = true then
      (s.slot i).entered (s.commitTarget i) s.partTime s.config.bypassTimeout
    else s.slot i := by
  rw [State.settled, State.eachSlot_enterIf_slot]

/-- A candidate stands in its target, and any other slot in its own state (R103, R104). -/
theorem State.settled_state (s : State) (i : Slot) : (s.settled.slot i).state =
    if (s.slot i).state.candidate = true then s.commitTarget i else (s.slot i).state := by
  rw [State.settled_slot, State.settles]
  by_cases hc : (s.slot i).state.candidate = true
  · by_cases hx : (s.slot i).state = s.commitTarget i
    · simp [hx]
    · simp [hc, hx, SlotRecord.entered]
  · simp [hc]

/-- A slot that is no candidate stands. -/
theorem State.settled_slot_other {s : State} {i : Slot} (h : ¬(s.slot i).state.candidate = true) :
    s.settled.slot i = s.slot i := by
  rw [State.settled_slot, State.settles]
  simp [h]

/-- A candidate that becomes another keeps its pending fault, and every slot its link (R21). -/
theorem State.settled_facts (s : State) (i : Slot) :
    (s.settled.slot i).fault = (s.slot i).fault ∧ (s.settled.slot i).link = (s.slot i).link := by
  have htarget : (s.commitTarget i).candidate = true := by
    rcases s.commitTarget_cases i with h | h <;> simp [h, SlotState.candidate]
  rw [State.settled_slot]
  split
  · exact ⟨by simp [SlotRecord.entered, htarget], rfl⟩
  · exact ⟨rfl, rfl⟩

@[simp] theorem State.settled_frame (s : State) :
    s.settled.config = s.config ∧ s.settled.outputs.brkDemand = s.outputs.brkDemand ∧
    s.settled.outputs.rideActive = s.outputs.rideActive := by
  rw [State.settled]
  refine State.eachSlot_keeps (P := fun t => t.config = s.config ∧
    t.outputs.brkDemand = s.outputs.brkDemand ∧ t.outputs.rideActive = s.outputs.rideActive)
    (fun i t ht => ?_) (by simp)
  simpa using ht

/-- A slot's record after a commit is the settled one with its carrier offset (R22, R125). -/
theorem State.commit_slot (s : State) (i : Slot) : s.commit.slot i = { s.settled.slot i with
    offset :=
      if (s.settled.slot i).state = .active then
        some (carrierOffset (slotPhase i)
          (s.settled.countPhase (fun x => decide (x = .active)) (slotPhase i))
          (s.settled.placeOf (fun x => decide (x = .active)) i) s.config.period)
      else none } := by
  rw [State.commit_eq, State.committedTo_slot, s.settled_frame.1]

/-- The counts and places of a state of the slots depend on the states alone. -/
theorem State.countPhase_congr {s t : State} (h : ∀ i, (t.slot i).state = (s.slot i).state)
    (p : SlotState → Bool) (x : Nat) : t.countPhase p x = s.countPhase p x := by
  simp [State.countPhase, h]

theorem State.placeOf_congr {s t : State} (h : ∀ i, (t.slot i).state = (s.slot i).state)
    (p : SlotState → Bool) (i : Slot) : t.placeOf p i = s.placeOf p i := by
  simp [State.placeOf, h]

theorem State.commit_state (s : State) (i : Slot) : (s.commit.slot i).state = (s.settled.slot i).state := by
  rw [State.commit_slot]

/-- A change of state at a commit, seen in the states before and after. -/
theorem State.settles_iff (s : State) (i : Slot) :
    s.settles i (s.slot i) = true ↔ (s.commit.slot i).state ≠ (s.slot i).state := by
  rw [State.commit_state, State.settled_state, State.settles]
  by_cases hc : (s.slot i).state.candidate = true
  · simp only [hc, if_true, Bool.true_and, decide_eq_true_eq]
    exact ne_comm
  · simp [hc]

/-- The notices of a commit, in slot order (R24, R105). -/
theorem State.commit_notices (s : State) : s.commit.notices =
    ((List.finRange 27).foldl (fun (u : State) i =>
      if (s.commit.slot i).state = (s.slot i).state then u
      else u.offer (.cellState i (s.slot i).state (s.commit.slot i).state 0)) s).notices := by
  have hstep : (fun (u : State) i => if s.settles i (s.slot i) = true then
        u.offer (.cellState i (s.slot i).state (s.commitTarget i) 0) else u) =
      fun u i => if (s.commit.slot i).state = (s.slot i).state then u
        else u.offer (.cellState i (s.slot i).state (s.commit.slot i).state 0) := by
    funext u i
    by_cases hi : s.settles i (s.slot i) = true
    · have hcandidate : (s.slot i).state.candidate = true := (Bool.and_eq_true_iff.mp hi).1
      rw [if_pos hi, if_neg ((s.settles_iff i).mp hi), State.commit_state, State.settled_state,
        if_pos hcandidate]
    · rw [if_neg hi, if_pos (not_not.mp (mt (s.settles_iff i).mpr hi))]
  have hsettled : s.commit.notices = s.settled.notices := by
    rw [State.commit_eq]
    simp
  rw [hsettled, State.settled, State.eachSlot_enterIf_notices, hstep]

theorem SlotState.candidate_eq_true {x : SlotState} : x.candidate = true ↔ x = .active ∨ x = .parked := by
  simp [SlotState.candidate]

/-- Settles O49. -/
theorem commitArrangesTheCandidates : Obligations.CommitArrangesTheCandidates := by
  intro s hs t k m candidate active
  have hcandidate : ∀ i, (s.slot i).state.candidate = true ↔ candidate i := fun i =>
    SlotState.candidate_eq_true
  have hstate : ∀ i, (t.slot i).state = (s.settled.slot i).state := s.commit_state
  have htarget : ∀ i, candidate i → (t.slot i).state = s.commitTarget i := fun i hi => by
    rw [hstate, State.settled_state, if_pos ((hcandidate i).mpr hi)]
  have hcommitted : t.committed = some s.commitPlan := by simp [t, State.commit_eq]
  refine ⟨fun e he hk => ?_, fun hmiss => ?_, fun i hi => ?_, fun i => ?_, rfl, s.commit_notices, ?_⟩
  · have hfound : s.planFor s.candidates = some e := (congrArg _ hk.symm).trans (State.planFor_of_mem hs he)
    refine ⟨?_, fun i hi => by rw [htarget i hi, State.commitTarget_hit hfound]⟩
    rw [hcommitted, State.commitPlan, hfound]
    rfl
  · have hfound : s.planFor s.candidates = none := State.planFor_none hmiss
    have hparked : ∀ i, s.commitTarget i = .parked ↔ m ≤ s.placeOf SlotState.candidate i := fun i => by
      rw [State.commitTarget_miss hfound, ← Nat.not_lt]
      show (if _ < m then _ else _) = _ ↔ _
      split <;> simp [*]
    refine ⟨⟨allSlots.filter fun i => (s.slot i).state.candidate && decide (s.commitTarget i = .parked),
      ?_, ?_, fun i => ?_⟩, fun i hi => ?_⟩
    · rw [hcommitted, State.commitPlan, hfound]
      rfl
    · exact List.Pairwise.filter _ (by decide)
    · simp [mem_allSlots, hcandidate, hparked]
    · rw [htarget i hi, State.commitTarget_miss hfound]
      rfl
  · have hslot := State.settled_slot_other (mt (hcandidate i).mp hi)
    rw [show t.slot i = _ from s.commit_slot i, hslot]
    exact ⟨rfl, rfl⟩
  · obtain ⟨hfault, hlink⟩ := s.settled_facts i
    have hslot : t.slot i = _ := s.commit_slot i
    refine ⟨by rw [hslot, ← hfault], by rw [hslot, ← hlink], ?_⟩
    rw [State.countPhase_congr hstate, State.placeOf_congr hstate, hstate, hslot]
    generalize s.settled = u
    rfl
  · have hlines : t.outputs.brkDemand = s.outputs.brkDemand ∧
        t.outputs.rideActive = s.outputs.rideActive := by
      simp [t, State.commit_eq]
    simp [t, hlines, State.commit_episode]

end Sys2Proof.Machine
end

section
/-! Part time and the events it brings (00_scope, "Time"; R5, R25, R30, R66, R110, R139, R148, R154). -/

namespace Sys2Proof.Machine

/-! ## The events due -/

@[simp] theorem mem_raiseIf {b : Bool} {c i : Instr} : c ∈ raiseIf b i ↔ b = true ∧ c = i := by
  cases b <;> simp [raiseIf]

/-- A timer's expiry is due while the timer runs and its time has been reached (R66, R139). -/
theorem mem_timerEvent {t : Option Timer} {now : PartTime} {c i : Instr} :
    c ∈ timerEvent t now i ↔ c = i ∧ ∃ x, t = some x ∧ x.length ≤ (now - x.start).toNat := by
  cases t <;> simp [timerEvent, and_comm]

/-- A slot's pulse operation is due once its time has been reached, as the timeout of its kind (R5). -/
theorem mem_pulseEvent {s : State} {i : Slot} {c : Instr} :
    c ∈ pulseEvent s i ↔ ∃ p, (s.slot i).contactor.pulse = some p ∧
      (p.kind = .close ∧ c = .bypassTimeout i ∨ p.kind = .opening ∧ c = .returnOperationTimeout i) ∧
      1000 * p.timeout ≤ (s.partTime - p.asserted).toNat := by
  cases hp : (s.slot i).contactor.pulse with
  | none => simp [pulseEvent, hp]
  | some p => cases hk : p.kind <;> simp [pulseEvent, hp, hk, and_comm]

theorem mem_missingEvent {s : State} {i : Slot} {c : Instr} :
    c ∈ missingEvent s i ↔ (s.slot i).link.owed ≠ 0 ∧ c = .answerMissing i := List.mem_replicate

/-- The gate's completion is due once its end has been reached (R110). -/
theorem mem_gateEvent {s : State} {c : Instr} : c ∈ gateEvent s ↔
    c = .gateCompletion ∧ ∃ g, s.speed.gate = some g ∧ 1000 * g.length ≤ (s.partTime - g.start).toNat := by
  cases hg : s.speed.gate <;> simp [gateEvent, hg, and_comm]

/-- The inter-byte gap is due after more than 1 ms without a byte (R148). -/
theorem mem_gapEvent {s : State} {c : Instr} : c ∈ gapEvent s ↔ c = .interbyteGapTimeout ∧
    ∃ b t, s.link.rx = .assembling b t ∧ 1000 < (s.partTime - t).toNat := by
  cases hr : s.link.rx <;> simp [gapEvent, hr, and_comm, Nat.succ_le_iff]

/-- The transmitter has a frame to begin while the refusal slot or the reply queue holds one (R154). -/
theorem LinkCtl.nextFrame_isSome (l : LinkCtl) :
    l.nextFrame.isSome = true ↔ l.refusal.isSome = true ∨ l.replies ≠ [] := by
  cases hb : l.refusal <;> cases hr : l.replies <;> simp [LinkCtl.nextFrame, hb, hr]

/-- The transmitter begins a frame while it is free, and completes one after its time on the line (R154). -/
theorem mem_txEvent {s : State} {c : Instr} : c ∈ txEvent s ↔
    (c = .transmitBegin ∧ s.link.tx = none ∧ (s.link.refusal.isSome = true ∨ s.link.replies ≠ [])) ∨
    (c = .transmitComplete ∧ ∃ x, s.link.tx = some x ∧
      lineTime s.link.rate x.bytes.length ≤ (s.partTime - x.start).toNat) := by
  cases ht : s.link.tx <;> simp [txEvent, ht, LinkCtl.nextFrame_isSome, and_comm]

/-- The next beat hands the ramp's completion on at the last ramp beat of an episode in MAGNETIZE (R119). -/
theorem State.rampEnds_iff (s : State) : s.rampEnds = true ↔ s.drive.state = .riding ∧
    (∃ e, s.episode.current = some e ∧ e.phase = .magnetize) ∧ 10 * s.config.ramp ≤ s.mod.rampPos := by
  simp only [State.rampEnds, State.ramping, State.phase, Bool.and_eq_true, decide_eq_true_eq,
    Option.map_eq_some_iff, and_assoc]
  rfl

/-- The ramp's completion is due once handed on, or with the beat due now that hands it on (R119). -/
theorem mem_rampEvent {s : State} {c : Instr} : c ∈ rampEvent s ↔ c = .rampCompletion ∧
    (s.mod.rampDone = true ∨ (100 ≤ (s.partTime - s.beatAt).toNat ∧ s.drive.state = .riding ∧
      (∃ e, s.episode.current = some e ∧ e.phase = .magnetize) ∧ 10 * s.config.ramp ≤ s.mod.rampPos)) := by
  simp only [rampEvent, mem_raiseIf, Bool.or_eq_true, Bool.and_eq_true, elapsed_eq_true, State.rampEnds_iff]
  exact and_comm

/-- The timer in `o`, if one runs, has run for its length at `now`. -/
def timerReached (o : Option Timer) (now : PartTime) : Prop :=
  ∃ t, o = some t ∧ t.length ≤ (now - t.start).toNat

/-- Every event that is due, by the rule that brings it. -/
theorem mem_dueEvents {s : State} {c : Instr} : c ∈ dueEvents s ↔
    (c = .beat ∧ 100 ≤ (s.partTime - s.beatAt).toNat) ∨
    (c = .rampCompletion ∧ (s.mod.rampDone = true ∨ (100 ≤ (s.partTime - s.beatAt).toNat ∧
      s.drive.state = .riding ∧ (∃ e, s.episode.current = some e ∧ e.phase = .magnetize) ∧
      10 * s.config.ramp ≤ s.mod.rampPos))) ∨
    (c = .settleExpiry ∧ timerReached s.episode.settle s.partTime) ∨
    (c = .windowExpiry ∧ timerReached s.episode.window s.partTime) ∨
    (c = .handoverExpiry ∧ timerReached s.episode.handover s.partTime) ∨
    (c = .supervisionExpiry ∧ timerReached s.drive.supervision s.partTime) ∨
    (∃ i, (s.slot i).link.owed ≠ 0 ∧ c = .answerMissing i) ∨
    (∃ i p, (s.slot i).contactor.pulse = some p ∧
      (p.kind = .close ∧ c = .bypassTimeout i ∨ p.kind = .opening ∧ c = .returnOperationTimeout i) ∧
      1000 * p.timeout ≤ (s.partTime - p.asserted).toNat) ∨
    (c = .gateCompletion ∧ ∃ g, s.speed.gate = some g ∧ 1000 * g.length ≤ (s.partTime - g.start).toNat) ∨
    (c = .interbyteGapTimeout ∧ ∃ b t, s.link.rx = .assembling b t ∧ 1000 < (s.partTime - t).toNat) ∨
    (c = .transmitBegin ∧ s.link.tx = none ∧ (s.link.refusal.isSome = true ∨ s.link.replies ≠ [])) ∨
    (c = .transmitComplete ∧ ∃ x, s.link.tx = some x ∧
      lineTime s.link.rate x.bytes.length ≤ (s.partTime - x.start).toNat) := by
  simp only [dueEvents, List.mem_append, List.mem_flatMap, mem_allSlots, true_and, or_assoc, mem_raiseIf,
    elapsed_eq_true, mem_rampEvent, mem_timerEvent, mem_missingEvent, mem_pulseEvent, mem_gateEvent,
    mem_gapEvent, mem_txEvent, timerReached, and_comm (b := c = Instr.beat)]

/-- A bypass's timeout is due once its pulse operation's time has been reached (R5). -/
theorem bypassTimeout_mem_dueEvents {s : State} {i : Slot} : .bypassTimeout i ∈ dueEvents s ↔
    ∃ p, (s.slot i).contactor.pulse = some p ∧ p.kind = .close ∧
      1000 * p.timeout ≤ (s.partTime - p.asserted).toNat := by
  simp [mem_dueEvents, -BitVec.toNat_sub]

/-- A return's timeout is due once its pulse operation's time has been reached (R5). -/
theorem returnOperationTimeout_mem_dueEvents {s : State} {i : Slot} :
    .returnOperationTimeout i ∈ dueEvents s ↔ ∃ p, (s.slot i).contactor.pulse = some p ∧ p.kind = .opening ∧
      1000 * p.timeout ≤ (s.partTime - p.asserted).toNat := by
  simp [mem_dueEvents, -BitVec.toNat_sub]

/-- The missing answers due are those owed, one each (R30). -/
theorem count_dueEvents_answerMissing (s : State) (i : Slot) :
    (dueEvents s).count (.answerMissing i) = (s.slot i).link.owed := by
  simp [dueEvents, List.count_append, count_missingEvent, List.count_eq_zero_of_not_mem, mem_rampEvent,
    mem_timerEvent, mem_pulseEvent, mem_gateEvent, mem_gapEvent, mem_txEvent]

/-! ## Events that are not due -/

/-- An effect that changes nothing here is a command that changes nothing. -/
theorem live_idle {f : State → State} {s : State} (h : f s = s) : live f s = .next s := by
  simp [live, h]

/-- A timer that is not due expires nothing. -/
theorem Timer.not_due {o : Option Timer} {t : Timer} {now : PartTime} (ht : o = some t)
    (h : ¬∃ t, o = some t ∧ t.length ≤ (now - t.start).toNat) : ¬t.due now = true :=
  fun hdue => h ⟨t, ht, Timer.due_eq_true.mp hdue⟩

theorem State.settleExpiry_idle {s : State}
    (h : ¬∃ t, s.episode.settle = some t ∧ t.length ≤ (s.partTime - t.start).toNat) :
    s.settleExpiry = s := by
  unfold State.settleExpiry
  split
  · rfl
  · next t ht => exact if_neg (Timer.not_due ht h)

theorem State.windowExpiry_idle {s : State}
    (h : ¬∃ t, s.episode.window = some t ∧ t.length ≤ (s.partTime - t.start).toNat) :
    s.windowExpiry = s := by
  unfold State.windowExpiry
  split
  · rfl
  · next t ht => exact if_neg (Timer.not_due ht h)

theorem State.handoverExpiry_idle {s : State}
    (h : ¬∃ t, s.episode.handover = some t ∧ t.length ≤ (s.partTime - t.start).toNat) :
    s.handoverExpiry = s := by
  unfold State.handoverExpiry
  split
  · rfl
  · next t ht => exact if_neg (Timer.not_due ht h)

theorem State.supervisionExpiry_idle {s : State}
    (h : ¬∃ t, s.drive.supervision = some t ∧ t.length ≤ (s.partTime - t.start).toNat) :
    s.supervisionExpiry = s := by
  unfold State.supervisionExpiry
  split
  · rfl
  · next t ht => exact if_neg (Timer.not_due ht h)

theorem State.gateCompletion_idle {s : State}
    (h : ¬∃ g, s.speed.gate = some g ∧ 1000 * g.length ≤ (s.partTime - g.start).toNat) :
    s.gateCompletion = s := by
  unfold State.gateCompletion
  split
  · rfl
  · next g hg => exact if_neg fun hdue => h ⟨g, hg, Gate.due_eq_true.mp hdue⟩

theorem State.interbyteGap_idle {s : State}
    (h : ¬∃ b t, s.link.rx = .assembling b t ∧ 1000 < (s.partTime - t).toNat) : s.interbyteGap = s := by
  unfold State.interbyteGap
  split
  · rfl
  · next b t hr => exact if_neg fun hdue => h ⟨b, t, hr, elapsed_eq_true.mp hdue⟩

theorem State.transmitComplete_idle {s : State}
    (h : ¬∃ x, s.link.tx = some x ∧ lineTime s.link.rate x.bytes.length ≤ (s.partTime - x.start).toNat) :
    s.transmitComplete = s := by
  unfold State.transmitComplete
  split
  · rfl
  · next x hx => exact if_neg fun hdue => h ⟨x, hx, Transmission.due_eq_true.mp hdue⟩

theorem State.pulseTimeout_idle {s : State} {i : Slot} (h : ¬∃ p, (s.slot i).contactor.pulse = some p ∧
    1000 * p.timeout ≤ (s.partTime - p.asserted).toNat) (x : SlotState) : s.pulseTimeout x i = s := by
  unfold State.pulseTimeout
  split
  · rfl
  · next p hp => exact if_neg fun hdue => h ⟨p, hp, PulseOp.due_eq_true.mp hdue.2⟩

/-! ## Part time moved up to a moment -/

/-- Part time moved up to a moment stands at it or beyond, so it does not move again (log entry 4). -/
@[simp] theorem State.reach_reach (start : PartTime) (s : State) :
    (s.reach start 100).reach start 100 = s.reach start 100 := by
  refine State.reach_of_le ?_
  unfold State.reach
  split
  · simp
  · omega

/-- A beat first moves part time up to its moment. -/
theorem State.beat_reach (s : State) : (s.reach s.beatAt 100).beat = s.beat := by
  simp only [State.beat, State.reach_frame, State.reach_reach]

/-- A feedback sample first moves part time up to its moment. -/
theorem State.feedbackSample_reach (i : Slot) (high : Bool) (s : State) :
    (s.reach (s.slot i).contactor.sampledAt 100).feedbackSample i high = s.feedbackSample i high := by
  have hslot : (s.reach (s.slot i).contactor.sampledAt 100).slot i = s.slot i :=
    State.slot_congr (by simp) i
  simp only [State.feedbackSample, hslot, State.reach_reach]

/-- An enabled line's sample first moves part time up to its moment. -/
theorem State.extLineSample_reach {l : ExtLine} {s : State} (hn : s.config.n ≠ none)
    (he : (s.line l).enable = true) (mv : Nat) :
    (s.reach (s.line l).sampledAt 100).extLineSample l mv = s.extLineSample l mv := by
  have hline : (s.reach (s.line l).sampledAt 100).line l = s.line l := by simp [State.line]
  have hhigh : (s.reach (s.line l).sampledAt 100).lineHigh mv = s.lineHigh mv := by simp [State.lineHigh]
  simp only [State.extLineSample, hline, hhigh, State.reach_frame, State.reach_reach]
  simp [hn, he]

/-- Settles O2: the events due, the commands that are not, and the moment a beat or a sample moves to. -/
theorem partTimeBringsTheEvents : Obligations.PartTimeBringsTheEvents := by
  refine ⟨fun s hp => ⟨fun hs => ?_, fun hs => ?_⟩, fun s hs => ?_, fun s hs => ?_⟩
  · simp [step, hp, State.tick, hs]
  · refine ⟨dueEvents { s with partTime := s.partTime + 1 }, by simp [step, hp, State.tick, hs],
      fun c hc => ?_, ?_, ?_, ?_, ?_, ?_, ?_, ?_, ?_, ?_, ?_, fun i =>
      ⟨count_dueEvents_answerMissing _ i, bypassTimeout_mem_dueEvents, returnOperationTimeout_mem_dueEvents⟩⟩
    · rcases mem_dueEvents.mp hc with ⟨rfl, -⟩ | ⟨rfl, -⟩ | ⟨rfl, -⟩ | ⟨rfl, -⟩ | ⟨rfl, -⟩ | ⟨rfl, -⟩ |
        ⟨i, -, rfl⟩ | ⟨i, p, -, ⟨-, rfl⟩ | ⟨-, rfl⟩, -⟩ | ⟨rfl, -⟩ | ⟨rfl, -⟩ | ⟨rfl, -⟩ | ⟨rfl, -⟩ <;> simp
    all_goals simp only [mem_dueEvents, timerReached, reduceCtorEq, false_and, true_and, and_false, or_false,
      false_or, exists_false]
  · intro idle due
    exact ⟨fun h => live_idle (State.settleExpiry_idle h), fun h => live_idle (State.windowExpiry_idle h),
      fun h => live_idle (State.handoverExpiry_idle h), fun h => live_idle (State.supervisionExpiry_idle h),
      fun h => live_idle (State.gateCompletion_idle h), fun h => live_idle (State.interbyteGap_idle h),
      fun h => live_idle (State.transmitComplete_idle h),
      fun i h => ⟨live_idle (State.pulseTimeout_idle h _), live_idle (State.pulseTimeout_idle h _)⟩⟩
  · intro moved
    have hmoved (start : PartTime) : (moved start).inReset = false := by
      simp only [moved]; split <;> exact hs
    have live_moved {f : State → State} (start : PartTime) (h : f (moved start) = f s) :
        live f s = live f (moved start) := by
      rw [live_of_not_inReset hs, live_of_not_inReset (hmoved start), h]
    exact ⟨live_moved _ s.beat_reach, fun i high => live_moved _ (s.feedbackSample_reach i high),
      fun l mv hn he => live_moved _ (State.extLineSample_reach hn he mv)⟩

end Sys2Proof.Machine
end

section
/-! The cell links: the beat, the status frames and the missing answers (R25 to R39, R119 to R124, R178). -/

namespace Sys2Proof.Machine

/-! ## Presentations while the slot is sampled (R38, R39) -/

/-- A slot in ACTIVE or PARKED presents. -/
theorem State.presentCell_sampled {i : Slot} {s : State}
    (h : (s.slot i).state = .active ∨ (s.slot i).state = .parked) (x : Presentation) :
    s.presentCell i x = s.present (.slot i) x :=
  if_pos (SlotState.candidate_eq_true.mpr h)

/-- A slot in no other state presents. -/
theorem State.presentCell_unsampled {i : Slot} {s : State}
    (h : ¬((s.slot i).state = .active ∨ (s.slot i).state = .parked)) (x : Presentation) :
    s.presentCell i x = s :=
  if_neg (mt SlotState.candidate_eq_true.mp h)

/-- What a slot's presentation leaves, by whether the slot is in ACTIVE or PARKED. -/
theorem State.presentCell_eq {i : Slot} {x : Presentation} {s t : State}
    (hsampled : (s.slot i).state = .active ∨ (s.slot i).state = .parked → t = s.present (.slot i) x)
    (hunsampled : ¬((s.slot i).state = .active ∨ (s.slot i).state = .parked) → t = s) :
    s.presentCell i x = t := by
  by_cases h : (s.slot i).state = .active ∨ (s.slot i).state = .parked
  · rw [hsampled h, State.presentCell_sampled h]
  · rw [hunsampled h, State.presentCell_unsampled h]

/-! ## Missing answers -/

/-- A missing answer's count and the window it is that of, in one equation (R30, R32). -/
theorem LinkFacts.missed_eq (l : LinkFacts) (c : Config) :
    l.missed c = { l with
      missing := min 255 (l.missing + 1)
      up := if c.linkLoss ≤ min 255 (l.missing + 1) then false else l.up
      owed := if 0 < l.owed then l.owed - 1 else 0
      awaiting := if 0 < l.owed then l.awaiting else false
      group := if 0 < l.owed then l.group else [] } := by
  have howed : (if 0 < l.owed then l.owed - 1 else 0) = l.owed - 1 := by split <;> omega
  rw [howed]
  rfl

/-- A missing answer presents LINK_LOSS exactly when the missing frames have reached L (R38). -/
theorem missedPresentation_missed (l : LinkFacts) (c : Config) :
    missedPresentation (l.missed c) c =
      if c.linkLoss ≤ min 255 (l.missing + 1) then .code 0x2001 else .missed := by
  rw [LinkFacts.missed_eq, missedPresentation]
  exact if_congr ⟨And.right, fun h => ⟨if_pos h, h⟩⟩ rfl rfl

/-- A window without its answer is counted, and presented (R32, R38). -/
theorem State.answerMissing_counted {i : Slot} {s : State} (hc : s.configured i = true)
    (hw : 0 < (s.slot i).link.owed ∨ (s.slot i).link.awaiting = true) :
    s.answerMissing i =
      (s.setSlot i { s.slot i with link := (s.slot i).link.missed s.config }).presentCell i
        (missedPresentation ((s.slot i).link.missed s.config) s.config) :=
  if_pos ⟨hc, hw⟩

/-- No window without its answer, nothing counted (log entry 7). -/
theorem State.answerMissing_idle {i : Slot} {s : State}
    (h : s.configured i = false ∨ ((s.slot i).link.owed = 0 ∧ (s.slot i).link.awaiting = false)) :
    s.answerMissing i = s :=
  if_neg fun ⟨hc, hw⟩ => by
    rcases h with h | ⟨howed, hawaiting⟩
    · simp [h] at hc
    · simp [howed, hawaiting] at hw

/-- Settles O53: a missing answer of a window that waits, presented by the count it leaves. -/
theorem missingAnswersAreCounted : Obligations.MissingAnswersAreCounted := by
  intro i s hs x n t
  have hexec : exec (.answerMissing i) s = .next (s.answerMissing i) := live_of_not_inReset hs
  refine ⟨fun h => by rw [hexec, State.answerMissing_idle h], fun hc hw => ?_⟩
  have hcounted : s.answerMissing i =
      t.presentCell i (if s.config.linkLoss ≤ n then .code 0x2001 else .missed) := by
    rw [State.answerMissing_counted hc hw, missedPresentation_missed, LinkFacts.missed_eq]
  have hstate : (t.slot i).state = x.state := by simp [t]
  rw [hexec, hcounted]
  refine ⟨fun hactive hparked => ?_, fun hx => ⟨fun hdown => ?_, fun hup => ?_⟩⟩
  · rw [State.presentCell_unsampled (by simp [hstate, hactive, hparked])]
  · rw [State.presentCell_sampled (hstate ▸ hx), if_pos hdown]
  · rw [State.presentCell_sampled (hstate ▸ hx), if_neg (Nat.not_le.mpr hup)]

/-! ## Status frames -/

/-- Which six bytes are a good frame, and with what fields (R30, R178). -/
theorem reportOf_six (b1 b0 c1 c0 echo check : Byte) :
    reportOf [b1, b0, c1, c0, echo, check] =
      if check = crc8 [b1, b0, c1, c0, echo] ∧ 256 * b1.toNat + b0.toNat ≤ 2047 ∧
        256 * c1.toNat + c0.toNat ≤ 0xFFF ∧ echo.toNat ≤ 3 then
        some { bus := 256 * b1.toNat + b0.toNat, code := 256 * c1.toNat + c0.toNat, echo := echo.toNat }
      else none := by
  simp only [reportOf, valueOf, List.foldl_cons, List.foldl_nil, Nat.mul_zero, Nat.zero_add,
    eq_comm (a := check)]

/-- A group of another length than six is no good frame. -/
theorem reportOf_of_length_ne {g : List Byte} (h : g.length ≠ 6) : reportOf g = none := by
  unfold reportOf
  split
  · exact absurd rfl h
  · rfl

/-- The value of a two-byte field is the number it was made from. -/
theorem valueOf_byte2 {n : Nat} (h : n < 65536) : valueOf (byte2 n) = n := by
  have hbytes : 256 * (n / 256 % 256) + n % 256 = n := by omega
  simpa [byte2_eq, bigEndian, valueOf, List.range_succ] using hbytes

/-- The six bytes of a status frame with fields in range are a good frame with these fields (R178). -/
theorem reportOf_reportBytes {r : CellReport} (hbus : r.bus ≤ 2047) (hcode : r.code ≤ 0xFFF)
    (hecho : r.echo ≤ 3) : reportOf (reportBytes r) = some r := by
  have hb : valueOf (byte2 r.bus) = r.bus := valueOf_byte2 (by omega)
  have hc : valueOf (byte2 r.code) = r.code := valueOf_byte2 (by omega)
  have he : (BitVec.ofNat 8 r.echo).toNat = r.echo := Nat.mod_eq_of_lt (by omega)
  simp only [byte2, byte2Of, valueOf, List.foldl_cons, List.foldl_nil, Nat.mul_zero, Nat.zero_add] at hb hc
  simp only [reportBytes, byte2, byte2Of, byte1, List.cons_append, List.nil_append]
  rw [reportOf_six, hb, hc, he, if_pos ⟨rfl, hbus, hcode, hecho⟩]

/-- A command that answers a state hands it to the commands after it. -/
theorem execAll_cons_of_next {c : Instr} {s t : State} (h : exec c s = .next t) (l : List Instr) :
    execAll (c :: l) s = execAll l t := by
  rw [execAll, h]

/-- The characters of two rows on a link are one row (R178; log entry 12). -/
theorem execAll_statusFrameGood (i : Slot) (a b : List Byte) (s : State) :
    execAll [.statusFrameGood i a, .statusFrameGood i b] s = exec (.statusFrameGood i (a ++ b)) s := by
  cases hs : s.inReset with
  | true =>
    have idle (l : List Byte) : exec (.statusFrameGood i l) s = .next s := live_of_inReset hs
    rw [execAll_cons_of_next (idle a), execAll_cons_of_next (idle b), idle (a ++ b), execAll]
  | false =>
    have taken {t : State} (ht : t.inReset = false) (l : List Byte) :
        exec (.statusFrameGood i l) t = .next (t.receiveChars i l) := live_of_not_inReset ht
    have ha : (s.receiveChars i a).inReset = false := by simp [hs]
    rw [execAll_cons_of_next (taken hs a), execAll_cons_of_next (taken ha b), taken hs, execAll,
      State.receiveChars_append]

/-- The bus-low latch after a good frame, of a slot in any state (R34; log entry 10). -/
theorem LinkFacts.taken_busLow (l : LinkFacts) (x : SlotState) (c : Config) (r : CellReport) :
    (l.taken x c r).busLow =
      if (x = .active ∨ x = .parked) ∧ l.sent.map (·.mode) = some .run then
        if r.bus < c.vTrip then true else if c.vRelease ≤ r.bus then false else l.busLow
      else l.busLow := by
  rw [ite_and]
  exact if_congr SlotState.candidate_eq_true rfl rfl

/-- The recharge condition, slot by slot (R70). -/
theorem State.recharged_iff (s : State) : s.recharged = true ↔
    ∀ j, ((s.slot j).state = .active ∨ (s.slot j).state = .parked → (s.slot j).link.echo = s.sync.toNat) ∧
      ((s.slot j).state = .active → s.config.vRelease ≤ (s.slot j).link.bus) := by
  simp only [State.recharged, List.all_eq_true, mem_allSlots, forall_const]
  simp only [← SlotState.candidate_eq_true, imp_iff_not_or, Bool.and_eq_true, Bool.or_eq_true,
    Bool.not_eq_true', decide_eq_true_eq, ← Bool.not_eq_true]

/-- Settles O52: the characters gathered, the group judged, and the good frame taken. -/
theorem goodStatusFramesAreTaken : Obligations.GoodStatusFramesAreTaken := by
  refine ⟨fun r => reportOf_reportBytes, fun g => reportOf_of_length_ne, fun b1 b0 c1 c0 echo check => ?_,
    fun i chars more s => ⟨rfl, execAll_statusFrameGood i chars more s⟩, fun i chars s hs => ?_⟩
  · intro bus code good
    rw [reportOf_six]
    exact ⟨fun h => if_pos h, fun h => if_neg h⟩
  intro x all gathered waits
  have hexec : exec (.statusFrameGood i chars) s = .next (s.receiveChars i chars) := live_of_not_inReset hs
  have hgroup (hw : waits) (hne : chars ≠ []) (hlen : all.length = 6) :
      s.receiveChars i chars = s.judgeGroup i all := State.receiveChars_group hw hne hlen
  rw [hexec]
  refine ⟨fun h => ?_, fun hw hlen => ?_, fun hw hne hlen hbad => ?_, fun r hw hne hlen hgood => ?_⟩
  · rw [State.receiveChars_idle h]
  · rw [State.receiveChars_gather chars hw hlen]
    rfl
  · rw [hgroup hw hne hlen, State.judgeGroup, hbad]
    rfl
  · intro sampled latch t shown u husampled huidle ready
    have hlatch : (x.link.taken x.state s.config r).busLow = latch := x.link.taken_busLow ..
    have ht : t = s.setSlot i { x with link := x.link.taken x.state s.config r } := by
      simp only [t, ← hlatch]
      rfl
    have hshown : shown = goodPresentation (x.link.taken x.state s.config r) := by
      simp only [shown, goodPresentation, hlatch, BitVec.ofNat_add]
      rfl
    have hsampled : (t.slot i).state = .active ∨ (t.slot i).state = .parked ↔ sampled := by
      simp [t, sampled]
    have hpresented : t.presentCell i shown = u :=
      State.presentCell_eq (husampled ∘ hsampled.mp) (huidle ∘ mt hsampled.mpr)
    have htaken : s.receiveChars i chars = u.rechargeCheck := by
      rw [hgroup hw hne hlen, State.judgeGroup, hgood, ← hpresented, ht, hshown]
      rfl
    have hready : ready ↔ u.phase = some .recharge ∧ u.recharged = true :=
      and_congr Iff.rfl u.recharged_iff.symm
    rw [htaken, State.rechargeCheck]
    exact ⟨fun h => by rw [if_pos (hready.mp h)]; rfl, fun h => by rw [if_neg (mt hready.mpr h)]⟩

/-! ## The beat -/

/-- The cascade modulates in RUNNING and in RIDING in MAGNETIZE and HANDOVER (R27). -/
theorem State.modulating_eq (s : State) : s.modulating =
    (decide (s.drive.state = .running) || s.ramping ||
      decide (s.drive.state = .riding ∧ s.phase = some .handover)) := by
  unfold State.modulating State.ramping
  split <;> simp_all

/-- The mode sent to a slot: RUN and ZERO while the cascade modulates, to ACTIVE and PARKED slots alone
(R27). -/
theorem State.modeOf_eq (s : State) (i : Slot) : s.modeOf i =
    if s.modulating = true ∧ (s.slot i).state = .active then .run
    else if s.modulating = true ∧ (s.slot i).state = .parked then .zero else .block := by
  unfold State.modeOf
  cases s.modulating <;> cases (s.slot i).state <;> rfl

/-- The lag of a slot's phase, by the slot's number: slots 0 to 8 are phase A, 9 to 17 phase B (R121). -/
theorem CommittedPlan.lag_slotPhase (p : CommittedPlan) (i : Slot) : p.lag (slotPhase i) =
    if i.val < 9 then 0 else if i.val < 18 then p.fields.lagB else p.fields.lagC := by
  have hA : slotPhase i = 0 ↔ i.val < 9 := by unfold slotPhase; omega
  unfold CommittedPlan.lag
  split
  · next h => rw [if_pos (hA.mp h)]
  · next h =>
    rw [if_neg (mt hA.mpr h)]
    exact if_congr (by unfold slotPhase at h ⊢; omega) rfl rfl

/-- Whether the ramp runs depends on the drive state and the episode. -/
theorem State.ramping_congr {s t : State} (hdrive : t.drive = s.drive) (hepisode : t.episode = s.episode) :
    t.ramping = s.ramping := by
  unfold State.ramping State.phase
  rw [hdrive, hepisode]

/-- The ramp's step in one equation (R119). -/
theorem State.advanceRamp_eq (s : State) : s.advanceRamp = { s with
    mod := { s.mod with
      rampPos := if s.ramping = true ∧ s.mod.rampPos < 10 * s.config.ramp then s.mod.rampPos + 1
        else s.mod.rampPos
      rampDone := (s.ramping && decide (10 * s.config.ramp ≤ s.mod.rampPos)) || s.mod.rampDone } } := by
  unfold State.advanceRamp State.rampEnds rampBeats
  cases s.ramping with
  | false => rfl
  | true => by_cases h : 10 * s.config.ramp ≤ s.mod.rampPos <;> simp [h, Nat.lt_of_not_le]

/-- A slot's window at a beat: that of the beat before closes, owed if no good frame was taken in it (R30). -/
theorem LinkFacts.sendFrame_eq (l : LinkFacts) (f : CommandFrame) : l.sendFrame f = { l with
    busLow := if f.mode = .run then l.busLow else false
    sent := some f
    wire := commandBytes f
    owed := if l.awaiting then l.owed + 1 else l.owed
    awaiting := true
    group := [] } := by
  unfold LinkFacts.sendFrame
  cases l.awaiting <;> rfl

/-- A beat whose moment has been reached: the frames sent, the applied values, the angle and the ramp (R25,
R119, R120, R123). -/
theorem State.beat_eq {s : State} (h : 100 ≤ (s.partTime - s.beatAt).toNat) : s.beat = { s with
    beatAt := s.partTime
    slots := Vector.ofFn fun i : Fin 27 =>
      if s.configured i then
        { s.slot i with link := (s.slot i).link.sendFrame (s.frameFor s.applied.1 i) }
      else s.slot i
    mod := { s.mod with
      mag := s.applied.1
      freq := s.applied.2
      theta := advanceAngle s.mod.theta s.applied.2
      rampPos := if s.ramping = true ∧ s.mod.rampPos < 10 * s.config.ramp then s.mod.rampPos + 1
        else s.mod.rampPos
      rampDone := (s.ramping && decide (10 * s.config.ramp ≤ s.mod.rampPos)) || s.mod.rampDone } } := by
  rw [State.beat, State.reach_of_le h, State.advanceRamp_eq, State.ramping_congr (s := s)] <;>
    simp [State.slot]

/-- The applied values are 0 and 0 in an episode's other phases than MAGNETIZE and HANDOVER (R123). -/
theorem State.applied_silent {s : State} {e : EpisodeRecord} (hd : s.drive.state = .riding)
    (he : s.episode.current = some e) (hm : e.phase ≠ .magnetize) (hh : e.phase ≠ .handover) :
    s.applied = (0, 0) := by
  unfold State.applied
  simp only [hd, he]
  split
  · next h _ => exact absurd h hm
  · next h _ => exact absurd h hh
  · rfl

/-- Settles O51: the applied values by drive state and phase, and the beat whose moment has been reached. -/
theorem beatSendsCommandFrames : Obligations.BeatSendsCommandFrames := by
  intro s
  refine ⟨?_, fun hd hr => ?_, fun r hd hr => ?_, fun e c hd he hc => ⟨fun hp => ?_, fun hp => ?_⟩,
    fun e hd he hm hh => State.applied_silent hd he hm hh, fun hs hdue => ?_⟩
  · rintro (hd | hd | hd) <;> simp [State.applied, hd]
  · simp [State.applied, hd, hr]
  · simp [State.applied, hd, hr]
  · simp [State.applied, hd, he, hc, hp, rampMagnitude, rampBeats]
  · simp [State.applied, hd, he, hc, hp]
  · intro magnetize modulating mode lag frame
    have hmode : s.modeOf = mode := by
      funext i
      rw [State.modeOf_eq, State.modulating_eq]
      rfl
    have hlag (c : CommittedPlan) (i : Slot) : c.lag (slotPhase i) = lag c i := c.lag_slotPhase i
    have hframe (i : Slot) : s.frameFor s.applied.1 i = frame i := by
      simp only [State.frameFor, hmode, hlag]
      rfl
    have hexec : exec .beat s = .next s.beat := live_of_not_inReset hs
    rw [hexec, State.beat_eq hdue]
    simp only [hframe, LinkFacts.sendFrame_eq, State.configured, decide_eq_true_eq]
    rfl

end Sys2Proof.Machine
end

section
/-! Routes, presentations and the external lines' samples (R42 to R53, R179). -/

namespace Sys2Proof.Machine

/-! ## Routes -/

/-- A code hits a window that is enabled and whose match it equals under the mask (R47). -/
theorem RouteWindow.hits_eq_true {w : RouteWindow} {c : Code} :
    w.hits c = true ↔ w.enabled = true ∧ c &&& w.mask = w.value := by
  simp [RouteWindow.hits]

/-- The search through the windows finds the lowest that satisfies a condition. -/
theorem find?_allWindows_eq_some {p : Fin 8 → Bool} {k : Fin 8} (hk : p k = true)
    (hlow : ∀ j, j < k → ¬p j = true) : allWindows.find? p = some k := by
  rw [show allWindows = List.finRange 8 by decide, List.find?_eq_some_iff_getElem]
  exact ⟨hk, k, by simp, by simp, fun j hj => by simpa using hlow ⟨j, by omega⟩ hj⟩

/-- Settles O41: the search through the windows ends at the lowest hit, or at none. -/
theorem lowestEnabledWindowGivesTheRoute : Obligations.LowestEnabledWindowGivesTheRoute := by
  intro c now s hits
  refine ⟨fun k hk hlow => ?_, fun hnone => ?_⟩
  · have hfind : allWindows.find? (fun k => (s.windows[k]).hits c) = some k :=
      find?_allWindows_eq_some (RouteWindow.hits_eq_true.mpr hk) fun j hj h =>
        hlow j hj (RouteWindow.hits_eq_true.mp h)
    simp only [State.routeFor, hfind]
  · have hfind : allWindows.find? (fun k => (s.windows[k]).hits c) = none :=
      List.find?_eq_none.mpr fun k _ h => hnone k (RouteWindow.hits_eq_true.mp h)
    simp only [State.routeFor, hfind, and_self]

/-! ## Presentations -/

/-- A record qualifies by its kind or by its count (R50 to R52). -/
theorem PendingFault.qualifies_eq_true {p : PendingFault} :
    p.qualifies = true ↔ p.kind = .latched ∨ p.q ≤ p.count := by
  simp [PendingFault.qualifies]

theorem State.settlePending_qualifies {src : FaultSource} {p : PendingFault} {s : State}
    (h : p.kind = .latched ∨ p.q ≤ p.count) : s.settlePending src p = s.qualify src p :=
  if_pos (PendingFault.qualifies_eq_true.mpr h)

theorem State.settlePending_waits {src : FaultSource} {p : PendingFault} {s : State}
    (hkind : p.kind = .level) (h : p.count < p.q) :
    s.settlePending src p = s.setFacts src { s.facts src with pending := some p } :=
  if_neg fun hq => by
    rcases PendingFault.qualifies_eq_true.mp hq with hlatched | hcount
    · simp [hkind] at hlatched
    · omega

/-- A code continues the pending record of its own code (R51). -/
theorem State.present_continues {src : FaultSource} {p : PendingFault} {s : State}
    (h : (s.facts src).pending = some p) : s.present src (.code p.code) =
      s.settlePending src { p with count := p.count + 1 } := by
  simp [State.present, h]

/-- A code of which no record is pending is seen for the first time (R50, R51). -/
theorem State.present_first {src : FaultSource} {c : Code} {s : State}
    (h : ∀ p, (s.facts src).pending = some p → p.code ≠ c) :
    s.present src (.code c) = s.firstSight src c := by
  cases hp : (s.facts src).pending with
  | none => simp [State.present, hp]
  | some p => simp [State.present, hp, h p hp]

theorem State.firstSight_ignored {src : FaultSource} {c : Code} {s : State}
    (h : (s.routeFor c s.partTime).action = .ignore) :
    s.firstSight src c = s.setFacts src { s.facts src with pending := none } := if_pos h

theorem State.firstSight_routed {src : FaultSource} {c : Code} {s : State}
    (h : (s.routeFor c s.partTime).action ≠ .ignore) :
    s.firstSight src c = s.settlePending src (s.routeFor c s.partTime) := if_neg h

/-- A new record counts one presentation (R50). -/
@[simp] theorem State.routeFor_count (c : Code) (now : PartTime) (s : State) :
    (s.routeFor c now).count = 1 := by
  unfold State.routeFor
  split <;> rfl

/-- Settles O42: a record continued, a code seen for the first time, or the record discarded. -/
theorem presentationsBuildToQualification : Obligations.PresentationsBuildToQualification := by
  intro src c s f n
  refine ⟨?_, ?_, fun hfirst => ⟨fun hn => ?_, fun hn hq => ?_, fun hn hkind hq => ?_⟩, rfl, rfl⟩
  · rintro p hp rfl hkind hq
    exact (State.present_continues hp).trans (State.settlePending_waits hkind hq)
  · rintro p hp rfl - hq
    exact (State.present_continues hp).trans (State.settlePending_qualifies (.inr hq))
  · rw [State.present_first hfirst, State.firstSight_ignored hn]
  · rw [State.present_first hfirst, State.firstSight_routed hn,
      State.settlePending_qualifies (by simpa [n] using hq)]
  · rw [State.present_first hfirst, State.firstSight_routed hn,
      State.settlePending_waits hkind (by simpa [n] using hq)]

/-! ## Samples of the external lines -/

/-- A line that is not sampled presents nothing (R43). -/
theorem State.extLineSample_idle {l : ExtLine} {s : State}
    (h : s.config.n = none ∨ (s.line l).enable = false) (mv : Nat) : s.extLineSample l mv = s := if_pos h

/-- The level a line's input reads (R179; log entry 23). -/
theorem State.lineHigh_eq (mv : Nat) (s : State) : s.lineHigh mv =
    if 2000 ≤ mv then true else if mv ≤ 800 then false else Config.levelBetween mv s.freeReadings := by
  simp only [State.lineHigh, levelOpen, ← Bool.decide_and, decide_eq_true_eq]
  by_cases hhigh : 2000 ≤ mv
  · simp [hhigh]
  · by_cases hlow : mv ≤ 800
    · simp [hhigh, hlow]
    · simp [Nat.not_le.mp hhigh, hhigh, hlow, Nat.not_le.mp hlow]

theorem State.countReading_eq (mv : Nat) (s : State) : s.countReading mv =
    { s with freeReadings := if 800 < mv ∧ mv < 2000 then s.freeReadings + 1 else s.freeReadings } := by
  simp [State.countReading, levelOpen]

theorem lineCode_eq (l : ExtLine) : lineCode l = BitVec.ofNat 16 (0x3000 + l.val) :=
  (BitVec.ofNat_add ..).symm

/-- A level counts as the trip exactly where it is the polarity's (R43). -/
theorem LineRecord.trips_eq (r : LineRecord) (high : Bool) :
    r.trips high = decide (high = decide (r.polarity = .activeHigh)) := by
  cases h : r.polarity <;> simp [LineRecord.trips, h]

/-- A sample whose moment has been reached: the level read, counted and presented (R43). -/
theorem State.extLineSample_taken {l : ExtLine} {s : State} (hn : s.config.n ≠ none)
    (he : (s.line l).enable = true) (ht : 100 ≤ (s.partTime - (s.line l).sampledAt).toNat) (mv : Nat) :
    s.extLineSample l mv =
      ((s.setLine l { s.line l with sampledAt := s.partTime }).countReading mv).present (.line l)
        (if (s.line l).trips (s.lineHigh mv) = true then .code (lineCode l) else .clear) := by
  have htrips : ((s.setLine l { s.line l with sampledAt := s.partTime }).line l).trips =
      (s.line l).trips := by
    rw [State.setLine_line, if_pos rfl]; rfl
  rw [State.extLineSample, if_neg (by simp [hn, he]), State.reach_of_le ht, ← htrips]
  rfl

/-- Settles O46: the sample taken, and the level read against the polarity. -/
theorem enabledLinesAreSampled : Obligations.EnabledLinesAreSampled := by
  intro l mv s hs
  have hexec : exec (.extLineSample l mv) s = .next (s.extLineSample l mv) := live_of_not_inReset hs
  refine ⟨fun h => by rw [hexec, State.extLineSample_idle h], fun hn he ht => ?_⟩
  intro high t
  have hhigh : s.lineHigh mv = high := s.lineHigh_eq mv
  have htaken : s.extLineSample l mv = t.present (.line l)
      (if high = decide ((s.line l).polarity = .activeHigh) then .code (lineCode l) else .clear) := by
    rw [State.extLineSample_taken hn he ht, State.countReading_eq, LineRecord.trips_eq, hhigh]
    simp only [decide_eq_true_eq]
    rfl
  rw [hexec, htaken]
  refine ⟨fun h => by rw [if_pos h, lineCode_eq], fun h => ?_⟩
  rw [if_neg (by rw [h]; cases (s.line l).polarity <;> simp)]

end Sys2Proof.Machine
end

section
/-! Qualifications, their actions and halts (R54 to R58, R84, R139 to R142). -/

namespace Sys2Proof.Machine

/-! ## What the operations of an episode keep of a slot -/

/-- A condition on a slot's record that survives a change of state and the writing of a carrier offset: all
that the episode's operations do to a slot. -/
structure SlotRecord.Lasting (P : SlotRecord → Prop) : Prop where
  entered : ∀ r x now timeout, P r → P (r.entered x now timeout)
  offset : ∀ r o, P r → P { r with offset := o }

/-- What holds of a slot's record holds of it wherever the slot table is the same. -/
theorem State.slot_of_slots {P : SlotRecord → Prop} {s t : State} {j : Slot} (h : P (s.slot j))
    (hslots : t.slots = s.slots := by simp) : P (t.slot j) := by
  rwa [State.slot_congr hslots]

section Lasting

variable {P : SlotRecord → Prop} (hP : SlotRecord.Lasting P) {s : State} {j : Slot}

include hP

theorem SlotRecord.Lasting.enterState (h : P (s.slot j)) (i : Slot) (x : SlotState) (c : Code) :
    P ((s.enterState i x c).slot j) := by
  rw [State.enterState_slot]
  split
  · next hij => exact hP.entered _ _ _ _ (hij ▸ h)
  · exact h

theorem SlotRecord.Lasting.startFaulted (h : P (s.slot j)) (i : Slot) :
    P ((s.startFaulted i).slot j) := hP.enterState h ..

theorem SlotRecord.Lasting.startAllFaulted (h : P (s.slot j)) (p : Slot → Bool) :
    P ((s.startAllFaulted p).slot j) := by
  rw [State.startAllFaulted_eq, State.eachSlot_enterIf_slot]
  split
  · exact hP.entered _ _ _ _ h
  · exact h

theorem SlotRecord.Lasting.commit (h : P (s.slot j)) : P (s.commit.slot j) := by
  rw [State.commit_eq, State.committedTo_slot]
  refine hP.offset _ _ ?_
  rw [State.settled, State.eachSlot_enterIf_slot]
  split
  · exact hP.entered _ _ _ _ h
  · exact h

theorem SlotRecord.Lasting.failEpisode (h : P (s.slot j)) (k : FailureCause) (c : Code) :
    P ((s.failEpisode k c).slot j) := by
  unfold State.failEpisode
  split
  · exact h
  · exact hP.startAllFaulted (State.slot_of_slots h) _

theorem SlotRecord.Lasting.enterPlan (h : P (s.slot j)) : P (s.enterPlan.slot j) := by
  have hphase : P ((s.setPhase .plan).slot j) := State.slot_of_slots h
  unfold State.enterPlan
  dsimp only
  split
  · exact hP.failEpisode hphase _ _
  · exact State.slot_of_slots (hP.commit hphase)

theorem SlotRecord.Lasting.checkBypass (h : P (s.slot j)) : P (s.checkBypass.slot j) := by
  unfold State.checkBypass
  split
  · exact h
  · split
    · exact hP.enterPlan h
    · exact h

theorem SlotRecord.Lasting.enterBypass (h : P (s.slot j)) : P (s.enterBypass.slot j) := by
  unfold State.enterBypass
  exact hP.checkBypass (hP.startAllFaulted (State.slot_of_slots h) _)

theorem SlotRecord.Lasting.enterIsolate (h : P (s.slot j)) : P (s.enterIsolate.slot j) := by
  unfold State.enterIsolate
  dsimp only
  split
  · exact hP.enterBypass (State.slot_of_slots h)
  · exact State.slot_of_slots h

theorem SlotRecord.Lasting.openEpisode (h : P (s.slot j)) (i : Slot) (c : Code) (k : Nat) :
    P ((s.openEpisode i c k).slot j) :=
  hP.enterIsolate (State.slot_of_slots h)

theorem SlotRecord.Lasting.reisolate (h : P (s.slot j)) : P (s.reisolate.slot j) := by
  unfold State.reisolate
  dsimp only
  split <;> exact hP.enterIsolate (State.slot_of_slots h)

theorem SlotRecord.Lasting.offerToEpisode (h : P (s.slot j)) (i : Slot) (c : Code) (k : Nat) :
    P ((s.offerToEpisode i c k).slot j) := by
  have hlist : P ((s.listSlot i c k).slot j) := State.slot_of_slots h
  have hstart : P (((s.listSlot i c k).startFaulted i).slot j) := hP.startFaulted hlist i
  unfold State.offerToEpisode
  split
  · exact h
  · split
    · exact hP.failEpisode h _ _
    · dsimp only
      split
      · exact hlist
      · exact hstart
      · exact State.slot_of_slots hstart
      · exact State.slot_of_slots hstart
      · exact State.slot_of_slots hstart
      · exact hP.reisolate hlist
      · exact hP.reisolate hlist

theorem SlotRecord.Lasting.rideAction (h : P (s.slot j)) (i : Slot) (p : PendingFault) :
    P ((s.rideAction i p).slot j) := by
  have hfaulted : P ((s.enterState i .faulted p.code).slot j) := hP.enterState h ..
  unfold State.rideAction
  dsimp only
  split
  · exact hfaulted
  · exact hP.startFaulted hfaulted i
  · exact hP.startFaulted hfaulted i
  · exact hP.openEpisode hfaulted ..
  · exact hP.offerToEpisode hfaulted ..

theorem SlotRecord.Lasting.haltAction (h : P (s.slot j)) (c : Code) : P ((s.haltAction c).slot j) := by
  have hhalt : P ((s.halt c).slot j) := State.slot_of_slots h
  unfold State.haltAction
  split
  · exact hP.failEpisode h _ _
  · exact hhalt
  · exact hhalt
  · exact h

end Lasting

/-! ## The record of a qualification -/

/-- A source's facts right after a qualification: no pending record, the last qualified fault and the count
(R54). -/
def FaultFacts.Recorded (l : QualifiedFault) (n : Nat) (f : FaultFacts) : Prop :=
  f.pending = none ∧ f.last = some l ∧ f.count = n

/-- A change of state discards a pending record and does nothing else to a slot's facts (R21). -/
theorem FaultFacts.Recorded.lasting (l : QualifiedFault) (n : Nat) :
    SlotRecord.Lasting fun r => r.fault.Recorded l n where
  entered r x now timeout := fun ⟨hpending, hlast, hcount⟩ => by
    rw [SlotRecord.entered_fault]
    exact ⟨by simp [hpending], hlast, hcount⟩
  offset _ _ h := h

@[simp] theorem State.setFacts_facts (src : FaultSource) (f : FaultFacts) (s : State) :
    (s.setFacts src f).facts src = f := by
  cases src <;> simp [State.setFacts, State.facts, State.setLine_line]

/-- A source's facts depend on the slots and the lines. -/
theorem State.facts_congr {s t : State} (hslots : t.slots = s.slots) (hlines : t.extLines = s.extLines)
    (src : FaultSource) : t.facts src = s.facts src := by
  cases src <;> simp [State.facts, State.slot, State.line, hslots, hlines]

/-- A NOTE keeps the record of the qualification (R55). -/
theorem FaultFacts.Recorded.noteAction {l : QualifiedFault} {n : Nat} {src : FaultSource} {s : State}
    (h : (s.facts src).Recorded l n) (p : PendingFault) : ((s.noteAction src p).facts src).Recorded l n := by
  unfold State.noteAction
  dsimp only
  split
  · rw [State.setFacts_facts]; exact h
  · rw [State.facts_congr (State.offer_frame ..).2.1 (State.offer_frame ..).2.2.1, State.setFacts_facts]
    exact h

/-- A HALT keeps the record of the qualification, of a slot or of a line. -/
theorem FaultFacts.Recorded.haltAction {l : QualifiedFault} {n : Nat} {src : FaultSource} {s : State}
    (h : (s.facts src).Recorded l n) (c : Code) : ((s.haltAction c).facts src).Recorded l n := by
  cases src with
  | slot i => exact (lasting l n).haltAction h c
  | line x => simpa [State.facts, State.line] using h

/-- Whatever the action of a qualification does, it keeps the record. -/
theorem FaultFacts.Recorded.act {l : QualifiedFault} {n : Nat} {src : FaultSource} {s : State}
    (h : (s.facts src).Recorded l n) (p : PendingFault) : ((s.act src p).facts src).Recorded l n := by
  unfold State.act
  split
  · exact h
  · exact h.noteAction p
  · exact (lasting l n).rideAction h _ p
  · exact h.haltAction _
  · exact h.haltAction _

/-- A qualification is recorded at its source (R54). -/
theorem State.qualify_recorded (src : FaultSource) (p : PendingFault) (s : State) :
    ((s.qualify src p).facts src).Recorded
      { code := p.code, action := src.taken p.action, time := s.partTime }
      (min 255 ((s.facts src).count + 1)) := by
  refine FaultFacts.Recorded.act ?_ p
  rw [State.setFacts_facts]
  exact ⟨rfl, rfl, rfl⟩

/-! ## The actions -/

theorem State.act_ignore {src : FaultSource} {p : PendingFault} {s : State}
    (h : src.taken p.action = .ignore) : s.act src p = s := by simp [State.act, h]

theorem State.act_note {src : FaultSource} {p : PendingFault} {s : State}
    (h : src.taken p.action = .note) : s.act src p = s.noteAction src p := by simp [State.act, h]

theorem State.act_halt {src : FaultSource} {p : PendingFault} {s : State}
    (h : src.taken p.action = .halt) : s.act src p = s.haltAction p.code := by simp [State.act, h]

theorem State.act_ride {i : Slot} {p : PendingFault} {s : State}
    (h : (FaultSource.slot i).taken p.action = .ride) : s.act (.slot i) p = s.rideAction i p := by
  simp [State.act, h]

/-- A line's RIDE acts as HALT (R57). -/
theorem FaultSource.taken_line (l : ExtLine) (a : Action) :
    (FaultSource.line l).taken a = if a = .ride then .halt else a := by cases a <;> rfl

theorem FaultSource.taken_slot (i : Slot) (a : Action) : (FaultSource.slot i).taken a = a := by
  cases a <;> rfl

/-- A FAULTED slot's bypass starts with the cause of its last qualified fault (R23). -/
theorem State.startFaulted_of_last {i : Slot} {c : QualifiedFault} {s : State}
    (h : (s.slot i).fault.last = some c) : s.startFaulted i = s.enterState i .bypassing c.code := by
  simp [State.startFaulted, SlotRecord.faultCause, h]

/-- A change of state leaves the last qualified fault (R21). -/
theorem State.enterState_last (i : Slot) (x : SlotState) (c : Code) (s : State) :
    ((s.enterState i x c).slot i).fault.last = (s.slot i).fault.last := by
  rw [State.enterState_slot, if_pos rfl, SlotRecord.entered_fault]

/-- Settles O43: the record, which every action keeps, and the actions by the drive state. -/
theorem qualificationsAreRecordedAndActedOn : Obligations.QualificationsAreRecordedAndActedOn := by
  refine ⟨fun src p s => ?_, fun src p s => ⟨fun h => if_pos h, fun h => if_neg h⟩, fun i p s => ?_⟩
  · intro taken t
    have htaken : src.taken p.action = taken := by
      cases src with
      | slot i => exact FaultSource.taken_slot i _
      | line l => exact FaultSource.taken_line l _
    have hqualify : s.qualify src p = t.act src p := by
      simp only [State.qualify, htaken]; rfl
    obtain ⟨hpending, hlast, hcount⟩ := s.qualify_recorded src p
    rw [htaken] at hlast
    refine ⟨hpending, hlast, hcount, fun h => ?_, fun h => ?_, fun h => ?_, ?_⟩
    · rw [hqualify, State.act_ignore (htaken.trans h)]
    · rw [hqualify, State.act_note (htaken.trans h)]
    · rw [hqualify, State.act_halt (htaken.trans h)]
    · rintro i rfl h
      rw [hqualify, State.act_ride (htaken.trans h)]
  · intro t
    have hdrive : t.drive = s.drive := by simp [t]
    refine ⟨fun hd c hc => ?_, fun hd => ?_, fun hd => ?_⟩
    · have hstart : s.rideAction i p = t.startFaulted i := by
        rcases hd with hd | hd <;> simp only [State.rideAction, State.enterState_frame, hd] <;> rfl
      rw [hstart, State.startFaulted_of_last ((State.enterState_last ..).trans hc)]
    · simp only [State.rideAction, State.enterState_frame, hd]; rfl
    · simp only [State.rideAction, State.enterState_frame, hd]; rfl

/-! ## Halts -/

/-- A halt in RUNNING written out (R136, R139, R142). -/
theorem State.halt_running {s : State} (h : s.drive.state = .running) (c : Code) :
    s.halt c = State.offer (.driveState .halted c) { s with
      drive := { state := .halted, supervision := none, reference := none, haltCause := some c }
      mod := { s.mod with mag := 0, freq := 0 }
      outputs := { s.outputs with brkDemand := true } } := by
  simp only [State.halt, h]
  rfl

/-- The expiry of a supervision timer that has run out halts (R140). -/
theorem State.supervisionExpiry_due {t : Timer} {s : State} (hd : s.drive.state = .running)
    (ht : s.drive.supervision = some t) (hdue : t.length ≤ (s.partTime - t.start).toNat) :
    s.supervisionExpiry = s.halt 0x5004 := by
  have hexpiry : s.supervisionExpiry =
      State.halt 0x5004 { s with drive := { s.drive with supervision := none } } := by
    simp only [State.supervisionExpiry, ht, Timer.due_eq_true, hdue, if_true]
    exact if_pos hd
  rw [hexpiry, State.halt_running hd]
  exact State.halt_running (s := { s with drive := { s.drive with supervision := none } }) hd _

/-- REFERENCE is accepted in RUNNING with both fields in their ranges (R137). -/
theorem refuseReference_none_running {q : Items} {s : State} {u w : Nat} (hd : s.drive.state = .running)
    (hu : field q 1 = some u) (hw : field q 2 = some w) (hu2 : u ≤ 1200) (hw2 : -32767 ≤ signed16 w) :
    refuseReference q s = none := by
  rw [refuseReference, if_pos (.inl hd)]
  simp [firstAbsent, hu, hw, fieldD, hu2, hw2, firstRefusal_nil]

/-- An accepted REFERENCE restarts the supervision timer in RUNNING (R138, R139). -/
theorem State.acceptReference_running {s : State} (hd : s.drive.state = .running) (r : Reference) :
    (s.acceptReference r).drive.state = .running ∧
    (s.acceptReference r).drive.supervision = some (s.timer s.config.supervision) ∧
    (s.acceptReference r).partTime = s.partTime := by
  simp [State.acceptReference, hd]

/-- A supervision timer of some length started now does not expire now (R140). -/
theorem State.supervisionExpiry_restarted {s : State} {n : Nat} (hn : 0 < n)
    (h : s.drive.supervision = some (s.timer n)) : s.supervisionExpiry = s := by
  refine State.supervisionExpiry_idle ?_
  rintro ⟨t, ht, hdue⟩
  rw [h] at ht
  cases ht
  simp only [State.timer, BitVec.sub_self] at hdue
  exact absurd hdue (by simp; omega)

/-- Settles O34: the halt by the drive state, and the expiry before and after a REFERENCE. -/
theorem haltsActByDriveState : Obligations.HaltsActByDriveState := by
  refine ⟨fun c s => ⟨fun h => State.halt_running h c, fun h => ?_, fun h => ?_, ?_, fun h => ?_⟩,
    fun t s hs hd ht hdue => ?_, fun tag p q u w s h hp hd hpos hu hw hu2 hw2 => ?_⟩
  · simp only [State.halt, h]; rfl
  · simp only [State.halt, State.haltAction, h, and_self]
  · rintro (h | h) <;> simp only [State.haltAction, h]
  · simp only [State.haltAction, h]
  · exact (live_of_not_inReset hs).trans (congrArg _ (State.supervisionExpiry_due hd ht hdue))
  · have hr : refuseReference q s = none :=
      refuseReference_none_running hd hu hw hu2 (signed16_ge (hp.field_lt hw rfl) hw2)
    have accepted : exec (.reference tag p) s =
        .next ((s.acceptReference (s.referenceOf q)).answered 0x06 tag
          (.ok (referenceBytes (s.referenceOf q)))) :=
      request_accepted (k := .reference) h hp (by simp only [serveKind, serveReference, hr, serveWith])
    obtain ⟨hrunning, htimer, htime⟩ := State.acceptReference_running hd (s.referenceOf q)
    refine ⟨_, accepted, hrunning, live_idle (State.supervisionExpiry_restarted hpos ?_)⟩
    refine htimer.trans ?_
    simp only [State.timer]
    rw [← htime]
    rfl

end Sys2Proof.Machine
end

section
/-! ROUTE_SET and EXT_SET (R44, R46, R48, R53). -/

namespace Sys2Proof.Machine

/-! ## Fields and their values -/

theorem fieldD_of_some {q : Items} {id v : Nat} (h : field q id = some v) : fieldD q id = v := by
  simp [fieldD, h]

theorem field_of_ne_none {q : Items} {id : Nat} (h : field q id ≠ none) :
    field q id = some (fieldD q id) := by
  obtain ⟨v, hv⟩ := Option.ne_none_iff_exists'.mp h
  rw [fieldD_of_some hv, hv]

/-- The values of a flag byte (R177). -/
theorem flagOf_eq (v : Nat) : flagOf v = if v ≤ 1 then some (decide (v = 1)) else none := by
  match v with
  | 0 | 1 => rfl
  | n + 2 => simp [flagOf]

theorem flagOf_isSome (v : Nat) : (flagOf v).isSome = decide (v ≤ 1) := by
  rw [flagOf_eq]; split <;> simp [*]

/-- The values of a polarity byte. -/
theorem polarityOf_eq (v : Nat) :
    polarityOf v = if v ≤ 1 then some (if v = 1 then .activeLow else .activeHigh) else none := by
  match v with
  | 0 | 1 => rfl
  | n + 2 => simp [polarityOf]

/-- The values of a route kind byte. -/
theorem routeKindOf_eq (v : Nat) :
    routeKindOf v = if v ≤ 1 then some (if v = 0 then .level else .latched) else none := by
  match v with
  | 0 | 1 => rfl
  | n + 2 => simp [routeKindOf]

/-- The values of an action byte. -/
theorem actionOf_eq (v : Nat) : actionOf v =
    if v ≤ 3 then some (match v with | 0 => .ignore | 1 => .note | 2 => .ride | _ => .halt) else none := by
  match v with
  | 0 | 1 | 2 | 3 => rfl
  | n + 4 => simp [actionOf]

theorem qAllowed_eq_true {v : Nat} :
    qAllowed v = true ↔ v = 1 ∨ v = 2 ∨ v = 4 ∨ v = 8 ∨ v = 16 := by
  simp [qAllowed]

/-- The first absent field of a run of ids: it is absent, and none before it is. -/
theorem firstAbsent_range'_eq_some {q : Items} {a n id : Nat} (ha : a ≤ id) (hn : id < a + n)
    (hid : field q id = none) (hlow : ∀ j, a ≤ j → j < id → field q j ≠ none) :
    firstAbsent q (List.range' a n) = some id :=
  List.find?_range'_eq_some.mpr ⟨by simp [hid], by simp; omega, fun j haj hj => by
    simpa using Option.isSome_iff_ne_none.mpr (hlow j haj hj)⟩

/-- No field of a list of ids is absent. -/
theorem firstAbsent_eq_none {q : Items} {ids : List Nat} :
    firstAbsent q ids = none ↔ ∀ id ∈ ids, field q id ≠ none := by
  simp [firstAbsent, List.find?_eq_none]

/-! ## ROUTE_SET -/

theorem windowField_of_lt {q : Items} (h : fieldD q 1 < 8) :
    windowField q = some ⟨fieldD q 1, h⟩ := dif_pos h

theorem windowField_isSome (q : Items) : (windowField q).isSome = decide (fieldD q 1 < 8) := by
  by_cases h : fieldD q 1 < 8 <;> simp [windowField, h]

/-- The values of a field that a ROUTE_SET may carry (R46). -/
def routeValueAllowed (id v : Nat) : Prop :=
  (id = 1 → v < 8) ∧ (id = 2 → v ≤ 1) ∧ (id = 5 → v ≤ 3) ∧ (id = 6 → v ≤ 1) ∧
  (id = 7 → v = 1 ∨ v = 2 ∨ v = 4 ∨ v = 8 ∨ v = 16)

section

variable {id v : Nat}

theorem routeValueAllowed_index : routeValueAllowed 1 v ↔ v < 8 := by simp [routeValueAllowed]

theorem routeValueAllowed_enable : routeValueAllowed 2 v ↔ v ≤ 1 := by simp [routeValueAllowed]

theorem routeValueAllowed_action : routeValueAllowed 5 v ↔ v ≤ 3 := by simp [routeValueAllowed]

theorem routeValueAllowed_kind : routeValueAllowed 6 v ↔ v ≤ 1 := by simp [routeValueAllowed]

theorem routeValueAllowed_count :
    routeValueAllowed 7 v ↔ v = 1 ∨ v = 2 ∨ v = 4 ∨ v = 8 ∨ v = 16 := by simp [routeValueAllowed]

/-- The match and the mask carry any value (R46). -/
theorem checked_of_not_routeValueAllowed (h : ¬routeValueAllowed id v) :
    id = 1 ∨ id = 2 ∨ id = 5 ∨ id = 6 ∨ id = 7 := by
  by_contra hne
  exact h ⟨by omega, by omega, by omega, by omega, by omega⟩

end

/-- The checked fields of a ROUTE_SET where each carries a value it may. -/
theorem routeFields_allowed {q : Items}
    (h : ∀ id, 1 ≤ id → id ≤ 7 → routeValueAllowed id (fieldD q id)) :
    fieldD q 1 < 8 ∧ fieldD q 2 ≤ 1 ∧ fieldD q 5 ≤ 3 ∧ fieldD q 6 ≤ 1 ∧ qAllowed (fieldD q 7) = true :=
  ⟨routeValueAllowed_index.mp (h 1 (by omega) (by omega)),
    routeValueAllowed_enable.mp (h 2 (by omega) (by omega)),
    routeValueAllowed_action.mp (h 5 (by omega) (by omega)),
    routeValueAllowed_kind.mp (h 6 (by omega) (by omega)),
    qAllowed_eq_true.mpr (routeValueAllowed_count.mp (h 7 (by omega) (by omega)))⟩

/-- ROUTE_SET's checks after the fields are found present, by the values they carry (R48). -/
def routeValueChecks (q : Items) : List (Bool × RefusalCause) :=
  [(decide (fieldD q 1 < 8), .range 1), (decide (fieldD q 2 ≤ 1), .range 2),
   (decide (fieldD q 5 ≤ 3), .range 5), (decide (fieldD q 6 ≤ 1), .range 6),
   (qAllowed (fieldD q 7), .range 7),
   (decide ((windowOf q).value &&& ~~~(windowOf q).mask = 0), .invalid)]

/-- ROUTE_SET's checks in order (R48). -/
theorem refuseRouteSet_eq (q : Items) (s : State) : refuseRouteSet q s =
    if s.drive.state = .riding then some .state
    else match firstAbsent q (List.range' 1 7) with
      | some id => some (.missing id)
      | none => firstRefusal (routeValueChecks q) := by
  have haction (v : Nat) : (actionOf v).isSome = decide (v ≤ 3) := by rw [actionOf_eq]; split <;> simp [*]
  have hkind (v : Nat) : (routeKindOf v).isSome = decide (v ≤ 1) := by rw [routeKindOf_eq]; split <;> simp [*]
  simp only [refuseRouteSet, routeValueChecks, windowField_isSome, flagOf_isSome, haction, hkind]
  rfl

/-- The first field with a value it may not carry is refused RANGE (R48). -/
theorem firstRefusal_routeValueChecks_range {q : Items} {id : Nat}
    (h : ¬routeValueAllowed id (fieldD q id))
    (hlow : ∀ j, 1 ≤ j → j < id → routeValueAllowed j (fieldD q j)) :
    firstRefusal (routeValueChecks q) = some (.range id) := by
  have h1 (hlt : 1 < id) : fieldD q 1 < 8 := routeValueAllowed_index.mp (hlow 1 (by omega) hlt)
  have h2 (hlt : 2 < id) : fieldD q 2 ≤ 1 := routeValueAllowed_enable.mp (hlow 2 (by omega) hlt)
  have h5 (hlt : 5 < id) : fieldD q 5 ≤ 3 := routeValueAllowed_action.mp (hlow 5 (by omega) hlt)
  have h6 (hlt : 6 < id) : fieldD q 6 ≤ 1 := routeValueAllowed_kind.mp (hlow 6 (by omega) hlt)
  rcases checked_of_not_routeValueAllowed h with rfl | rfl | rfl | rfl | rfl
  · simp [routeValueChecks, mt routeValueAllowed_index.mpr h]
  · simp [routeValueChecks, h1, mt routeValueAllowed_enable.mpr h]
  · simp [routeValueChecks, h1, h2, mt routeValueAllowed_action.mpr h]
  · simp [routeValueChecks, h1, h2, h5, mt routeValueAllowed_kind.mpr h]
  · simp [routeValueChecks, h1, h2, h5, h6, mt (routeValueAllowed_count.mpr ∘ qAllowed_eq_true.mp) h]

/-- Where every field carries a value it may, only the match is left to check (R48). -/
theorem firstRefusal_routeValueChecks_allowed {q : Items}
    (h : ∀ id, 1 ≤ id → id ≤ 7 → routeValueAllowed id (fieldD q id)) :
    firstRefusal (routeValueChecks q) =
      if (windowOf q).value &&& ~~~(windowOf q).mask = 0 then none else some .invalid := by
  obtain ⟨h1, h2, h5, h6, h7⟩ := routeFields_allowed h
  simp [routeValueChecks, h1, h2, h5, h6, h7, firstRefusal_nil]

theorem serveRouteSet_refused {q : Items} {s : State} {c : RefusalCause} (h : refuseRouteSet q s = some c) :
    serveKind .routeSet q s = (s, .refused c) := by
  simp only [serveKind, serveRouteSet, h, serveWith]
  split <;> rfl

/-- The window a ROUTE_SET carries, by the values of its fields (R46). -/
theorem windowOf_eq {q : Items} (h2 : fieldD q 2 ≤ 1) (h5 : fieldD q 5 ≤ 3) (h6 : fieldD q 6 ≤ 1) :
    windowOf q =
      { enabled := decide (fieldD q 2 = 1), value := BitVec.ofNat 16 (fieldD q 3),
        mask := BitVec.ofNat 16 (fieldD q 4),
        action := match fieldD q 5 with | 0 => .ignore | 1 => .note | 2 => .ride | _ => .halt
        kind := if fieldD q 6 = 0 then .level else .latched, q := fieldD q 7 } := by
  rw [windowOf, flagOf_eq, actionOf_eq, routeKindOf_eq, if_pos h2, if_pos h5, if_pos h6]
  rfl

/-- Settles O44: each clause is one outcome of the chain of checks. -/
theorem routeSetWritesOneWindow : Obligations.RouteSetWritesOneWindow := by
  intro tag p q s h hp refused allowed whole
  have refuses {c : RefusalCause} (hc : refuseRouteSet q s = some c) : refused c :=
    request_refused (k := .routeSet) h hp (serveRouteSet_refused hc)
  have hcheck := refuseRouteSet_eq q s
  have present (hw : whole) : firstAbsent q (List.range' 1 7) = none :=
    firstAbsent_eq_none.mpr fun id hid => by
      obtain ⟨h1, h7⟩ := List.mem_range'_1.mp hid
      exact hw id h1 (by omega)
  have value (hw : whole) (id : Nat) (h1 : 1 ≤ id) (h7 : id ≤ 7) : field q id = some (fieldD q id) :=
    field_of_ne_none (hw id h1 h7)
  refine ⟨fun hd => refuses ?_, fun id hd h1 h7 hid hlow => refuses ?_,
    fun id v hd hw hid hv hlow => refuses ?_, fun hd hw hall => ?_⟩
  · rw [hcheck, if_pos hd]
  · rw [hcheck, if_neg hd, firstAbsent_range'_eq_some h1 (by omega) hid hlow]
  · have hchecked := checked_of_not_routeValueAllowed hv
    rw [hcheck, if_neg hd, present hw]
    refine firstRefusal_routeValueChecks_range (by rwa [fieldD_of_some hid]) fun j h1 hj => ?_
    exact hlow j _ hj (value hw j h1 (by omega))
  · intro w
    have hvalues (id : Nat) (h1 : 1 ≤ id) (h7 : id ≤ 7) : routeValueAllowed id (fieldD q id) :=
      hall id _ (value hw id h1 h7)
    obtain ⟨hindex, henable, haction, hkind, -⟩ := routeFields_allowed hvalues
    have hwindow : windowOf q = w := windowOf_eq henable haction hkind
    have hmatch : refuseRouteSet q s = if w.value &&& ~~~w.mask = 0 then none else some .invalid := by
      rw [hcheck, if_neg hd, present hw]
      exact (firstRefusal_routeValueChecks_allowed hvalues).trans (by rw [hwindow])
    refine ⟨fun hm => refuses (by rw [hmatch, if_neg hm]), fun hm => ?_⟩
    refine ⟨windowItems w, s.windows.set (fieldD q 1) w hindex,
      request_accepted (k := .routeSet) h hp ?_, fun k => ?_⟩
    · simp only [serveKind, serveRouteSet, windowField_of_lt hindex, hmatch, if_pos hm, serveWith, hwindow]
    · simp only [Fin.getElem_fin, Vector.getElem_set, eq_comm (a := fieldD q 1)]

/-! ## EXT_SET -/

theorem lineField_of_line {q : Items} {l : ExtLine} (h : field q 1 = some l.val) : lineField q = some l := by
  simp [lineField, fieldD, h]

theorem serveExtSet_refused {q : Items} {s : State} {c : RefusalCause} (h : refuseExtSet q s = some c) :
    serveKind .extSet q s = (s, .refused c) := by
  simp only [serveKind, serveExtSet, h, serveWith]
  split <;> rfl

/-- EXT_SET's checks in order (R44). -/
theorem refuseExtSet_eq (q : Items) (s : State) : refuseExtSet q s =
    if s.drive.state = .riding then some .state
    else if field q 1 = none then some (.missing 1)
    else firstRefusal
      [(decide (fieldD q 1 < 4), .range 1), (fieldOk q 2 fun v => decide (v ≤ 1), .range 2),
       (fieldOk q 3 fun v => decide (v ≤ 1), .range 3)] := by
  have hline : (lineField q).isSome = decide (fieldD q 1 < 4) := by
    by_cases h : fieldD q 1 < 4 <;> simp [lineField, h]
  have hpolarity (v : Nat) : (polarityOf v).isSome = decide (v ≤ 1) := by
    rw [polarityOf_eq]; split <;> simp [*]
  simp only [refuseExtSet, hline, flagOf_isSome, hpolarity]
  cases h : field q 1 <;> simp [firstAbsent, h]

/-- The settings an EXT_SET leaves, by the fields it carries (R44). -/
theorem LineRecord.setBy_eq {q : Items} (r : LineRecord) (henable : ∀ v, field q 2 = some v → v ≤ 1)
    (hpolarity : ∀ v, field q 3 = some v → v ≤ 1) : r.setBy q =
      let on : Bool := match field q 2 with | none => r.enable | some v => decide (v = 1)
      { r with
        enable := on
        polarity := match field q 3 with
          | none => r.polarity
          | some v => if v = 1 then .activeLow else .activeHigh
        fault :=
          if r.enable = true ∧ on = false then { r.fault with pending := none, noted := none }
          else r.fault } := by
  have hon : ((field q 2).bind flagOf).getD r.enable =
      match field q 2 with | none => r.enable | some v => decide (v = 1) := by
    cases h : field q 2 with
    | none => rfl
    | some v => simp [flagOf_eq, henable v h]
  have hpol : ((field q 3).bind polarityOf).getD r.polarity =
      match field q 3 with
      | none => r.polarity
      | some v => if v = 1 then .activeLow else .activeHigh := by
    cases h : field q 3 with
    | none => rfl
    | some v => simp [polarityOf_eq, hpolarity v h]
  simp only [LineRecord.setBy, hon, hpol]

/-- A line's two settings as items (R44; log entry 16). -/
theorem settingItems_eq (b : Bool) (x : Polarity) :
    item 1 (byte1 (flagBit 0 b)) ++ item 2 (byte1 (polarityCode x)) =
      [1, if b then 1 else 0, 2, if x = .activeLow then 1 else 0] := by
  cases b <;> cases x <;> rfl

/-- Settles O45: each clause is one outcome of the chain of checks. -/
theorem extSetChangesOneLine : Obligations.ExtSetChangesOneLine := by
  intro tag p q s h hp refused
  have refuses {c : RefusalCause} (hc : refuseExtSet q s = some c) : refused c :=
    request_refused (k := .extSet) h hp (serveExtSet_refused hc)
  have hcheck := refuseExtSet_eq q s
  refine ⟨fun hd => refuses ?_, fun hd hl => refuses ?_, fun v hd hl hv => refuses ?_, fun l hd hl => ?_⟩
  · rw [hcheck, if_pos hd]
  · rw [hcheck, if_neg hd, if_pos hl]
  · have hrange : ¬v < 4 := by omega
    rw [hcheck, if_neg hd, if_neg (by simp [hl])]
    simp [fieldD_of_some hl, hrange]
  · have hvalues : refuseExtSet q s = firstRefusal
        [(fieldOk q 2 fun v => decide (v ≤ 1), .range 2),
         (fieldOk q 3 fun v => decide (v ≤ 1), .range 3)] := by
      rw [hcheck, if_neg hd, if_neg (by simp [hl]), firstRefusal_cons, fieldD_of_some hl, if_pos]
      exact decide_eq_true l.isLt
    have inRange {id : Nat} (hv : ∀ v, field q id = some v → v ≤ 1) :
        (fieldOk q id fun v => decide (v ≤ 1)) = true :=
      fieldOk_eq_true.mpr fun v h => decide_eq_true (hv v h)
    have outOfRange {id v : Nat} (h : field q id = some v) (hv : 1 < v) :
        (fieldOk q id fun v => decide (v ≤ 1)) = false := by
      simp [fieldOk, h, hv]
    refine ⟨fun v hv hgt => refuses ?_, fun v h2 hv hgt => refuses ?_, fun h2 h3 => ?_⟩
    · simp [hvalues, outOfRange hv hgt]
    · simp [hvalues, inRange h2, outOfRange hv hgt]
    · intro r on pol
      have hnone : refuseExtSet q s = none := by
        simp [hvalues, inRange h2, inRange h3, firstRefusal_nil]
      have hset : (s.line l).setBy q = _ := r.setBy_eq h2 h3
      refine request_accepted (k := .extSet) h hp ?_
      simp only [serveKind, serveExtSet, lineField_of_line hl, hnone, serveWith, settingItems_eq, hset]
      rfl

end Sys2Proof.Machine
end

section
/-! STOP, and the completion of the magnetise ramp (R73, R74, R88, R135). -/

namespace Sys2Proof.Machine

/-! ## STOP -/

/-- STOP is refused in UNCONFIGURED and HALTED alone (R135). -/
theorem refuseStop_eq (s : State) : refuseStop s =
    if s.drive.state = .unconfigured ∨ s.drive.state = .halted then some .state else none := by
  unfold refuseStop
  cases s.drive.state <;> rfl

theorem State.failEpisode_drive {e : EpisodeRecord} {s : State} (h : s.episode.current = some e)
    (cause : FailureCause) (code : Code) : (s.failEpisode cause code).drive =
      { s.drive with state := .halted, haltCause := some code } := by
  simp [State.failEpisode_of_some h]

/-- Settles O30: the refusal, and the three ways an accepted STOP acts. -/
theorem stopActsByDriveState : Obligations.StopActsByDriveState := by
  intro tag s h
  have accepted (hd : refuseStop s = none) : exec (.stop tag []) s =
      .next (s.acceptStop.answered 0x04 tag (.ok (driveItem s.acceptStop))) :=
    request_accepted (k := .stop) h (carries_nil _) (by simp only [serveKind, serveStop, hd, serveWith])
  refine ⟨fun hd => ?_, fun hd => ?_, fun hd => ?_, fun hd he => ?_⟩
  · exact request_refused (k := .stop) h (carries_nil _)
      (by simp only [serveKind, serveStop, refuseStop_eq, if_pos hd, serveWith])
  · have hstop : s.acceptStop = s := by simp only [State.acceptStop, hd]
    rw [accepted (by simp [refuseStop_eq, hd]), hstop, driveItem, hd]
    rfl
  · rw [accepted (by simp [refuseStop_eq, hd]), driveItem]
    simp only [State.acceptStop, hd, State.offer_frame]
    rfl
  · obtain ⟨e, he⟩ := Option.isSome_iff_exists.mp he
    have hstop : s.acceptStop = s.failEpisode .aborted 0x6005 := by simp only [State.acceptStop, hd]
    rw [accepted (by simp [refuseStop_eq, hd]), hstop, driveItem, State.failEpisode_drive he]
    rfl

/-- Settles O56: a completion that is not handed on or not in MAGNETIZE, and the one that is taken. -/
theorem rampCompletionHandsOver : Obligations.RampCompletionHandsOver := by
  intro e s hs he
  refine ⟨fun h => live_idle ?_, fun c hphase hdone hc => ?_⟩
  · have hidle : ¬(e.phase = .magnetize ∧ s.mod.rampDone = true) := by
      rintro ⟨hphase, hdone⟩
      simp [hphase, hdone] at h
    simp only [State.rampCompletion, he, if_neg hidle]
  · have htaken : s.rampCompletion = State.setPhase .handover (State.offer
        (.restartReady e.number c.fr c.ut s.ratio c.fCeil c.reduced) { s with
          episode := { s.episode with window := none, handover := some (s.timer s.config.handover) }
          mod := { s.mod with rampDone := false } }) := by
      simp only [State.rampCompletion, he, hphase, hdone, hc, and_self, if_true]
    refine (live_of_not_inReset hs).trans (congrArg _ (htaken.trans ?_))
    rw [State.setPhase_of_some (e := e) (by simpa using he), ← State.offer_setEpisode]
    simp only [State.offer_frame]
    rfl

end Sys2Proof.Machine
end

section
/-! The opening of an episode, and second faults (R63 to R67, R77 to R82). -/

namespace Sys2Proof.Machine

/-! ## The entry to ISOLATE and to BYPASS -/

/-- The waiting bypasses of one FAULTED slot alone start (R7). -/
theorem State.startAllFaulted_one {i : Slot} {s : State} (h : (s.slot i).state = .faulted) :
    s.startAllFaulted (fun j => decide (i = j)) = s.startFaulted i := by
  have hslot (t : State) (hi : (t.slot i).state ≠ .faulted) (l : List Slot) :
      l.foldl (fun (t : State) j =>
        if (t.slot j).state = .faulted ∧ decide (i = j) = true then t.startFaulted j else t) t = t := by
    induction l with
    | nil => rfl
    | cons j l ih =>
      rw [List.foldl_cons, if_neg ?_, ih]
      rintro ⟨hj, hij⟩
      exact hi (of_decide_eq_true hij ▸ hj)
  have hstarted : ((s.startFaulted i).slot i).state ≠ .faulted := by
    rw [State.startFaulted, State.enterState_slot, if_pos rfl]
    simp [SlotRecord.entered]
  have hpass (l : List Slot) (hl : i ∈ l) : l.foldl (fun (t : State) j =>
      if (t.slot j).state = .faulted ∧ decide (i = j) = true then t.startFaulted j else t) s =
        s.startFaulted i := by
    induction l with
    | nil => cases hl
    | cons j l ih =>
      rw [List.foldl_cons]
      by_cases hij : i = j
      · subst hij
        rw [if_pos ⟨h, decide_eq_true rfl⟩, hslot _ hstarted]
      · rw [if_neg fun hj => hij (of_decide_eq_true hj.2), ih (List.mem_of_ne_of_mem hij hl)]
  exact hpass _ (mem_allSlots i)

/-- The entry to ISOLATE with a settle time: the settle timer starts (R65, R67). -/
theorem State.enterIsolate_settle {e : EpisodeRecord} {s : State} (he : s.episode.current = some e)
    (h : s.config.settle ≠ 0) : s.enterIsolate = { s with episode := { s.episode with
      settle := some { start := s.partTime, length := 1000 * s.config.settle }
      current := some { e with phase := .isolate } } } := by
  unfold State.enterIsolate
  rw [State.setPhase_of_some he]
  exact if_neg h

/-- The entry to ISOLATE with a settle time of 0 is the entry to BYPASS: an involved cell that is not
BYPASSED keeps the episode there, and the listed slots start their bypasses (R67, R68). -/
theorem State.enterIsolate_bypass {e : EpisodeRecord} {s : State} (he : s.episode.current = some e)
    (h : s.config.settle = 0) (hv : ∃ v ∈ e.involved, v.outcome ≠ .bypassed) :
    s.enterIsolate = State.startAllFaulted (fun i => e.involved.any fun v => decide (v.slot = i)) { s with
      episode := { s.episode with settle := none, current := some { e with phase := .bypass } } } := by
  unfold State.enterIsolate
  rw [State.setPhase_of_some he]
  exact (if_pos h).trans (State.enterBypass_of_some (e := { e with phase := .isolate }) rfl hv)

/-! ## The opening -/

/-- The opening's notice and changes of state, in the phase the entry to ISOLATE leaves (R65). -/
def State.openedIn (i : Slot) (c : Code) (route : Nat) (phase : EpisodePhase) (settle : Option Timer)
    (s : State) : State :=
  let t := s.beginEpisode i c route
  State.offer (.episodeOpened (nextNumber s.episode.counter) i c s.speed.last.f) { t with
    episode := { t.episode with
      settle := settle
      current := some { s.newEpisode i c route with phase := phase } } }

theorem State.openEpisode_settle (i : Slot) (c : Code) (route : Nat) {s : State}
    (h : s.config.settle ≠ 0) : s.openEpisode i c route =
      s.openedIn i c route .isolate (some { start := s.partTime, length := 1000 * s.config.settle }) := by
  rw [State.openEpisode, State.enterIsolate_settle (e := s.newEpisode i c route) (by simp) (by simpa using h),
    State.openedIn, ← State.offer_setEpisode]
  simp only [State.offer_frame]
  rfl

theorem State.openEpisode_bypass {i : Slot} (c : Code) (route : Nat) {s : State}
    (h : s.config.settle = 0) (hi : (s.slot i).state = .faulted) : s.openEpisode i c route =
      (s.openedIn i c route .bypass none).startFaulted i := by
  have hlisted : (fun j => (s.newEpisode i c route).involved.any fun v => decide (v.slot = j)) =
      fun j => decide (i = j) := by
    funext j
    simp [State.newEpisode, newEntry]
  rw [State.openEpisode, State.enterIsolate_bypass (e := s.newEpisode i c route) (by simp) (by simpa using h)
    ⟨newEntry i c route, by simp [State.newEpisode], by simp [newEntry]⟩, hlisted,
    ← State.offer_setEpisode, State.openedIn]
  simp only [State.offer_frame]
  refine State.startAllFaulted_one ?_
  rw [State.offer_slot]
  exact hi

/-- Settles O54: the opening up to the entry to ISOLATE, which a settle time of 0 makes the entry to
BYPASS. -/
theorem episodeOpensInIsolate : Obligations.EpisodeOpensInIsolate := by
  intro i c route s hd number opened
  have hopened (phase : EpisodePhase) (settle : Option Timer) :
      s.openedIn i c route phase settle = opened phase settle := rfl
  refine ⟨fun h => (State.openEpisode_settle i c route h).trans (hopened _ _), fun h hi f hf => ?_⟩
  rw [State.openEpisode_bypass c route h hi, hopened]
  refine State.startFaulted_of_last ?_
  rw [State.offer_slot]
  exact hf

/-! ## Second faults -/

/-- The open record lists one slot more (R64). -/
theorem State.listSlot_of_some {e : EpisodeRecord} {s : State} (he : s.episode.current = some e) (i : Slot)
    (c : Code) (route : Nat) : s.listSlot i c route = { s with episode := { s.episode with
      current := some { e with involved := e.involved ++ [newEntry i c route] } } } := by
  simp [State.listSlot, State.mapEpisode, he]

theorem State.failEpisode_of_none {s : State} (he : s.episode.current = none) (k : FailureCause) (c : Code) :
    s.failEpisode k c = s := by simp only [State.failEpisode, he]

theorem State.offerToEpisode_of_none {s : State} (he : s.episode.current = none) (i : Slot) (c : Code)
    (route : Nat) : s.offerToEpisode i c route = s := by simp only [State.offerToEpisode, he]

/-- A second fault with F_max entries held (R77). -/
theorem State.offerToEpisode_full {e : EpisodeRecord} {s : State} (he : s.episode.current = some e)
    (hmax : s.config.fMax ≤ e.involved.length) (i : Slot) (c : Code) (route : Nat) :
    s.offerToEpisode i c route = s.failEpisode .tooManyFaults 0x6003 := by
  simp only [State.offerToEpisode, he, if_pos hmax]

/-- A slot listed while F_max entries are not held: what its phase makes of it (R78 to R82). -/
theorem State.offerToEpisode_listed {e : EpisodeRecord} {s : State} (he : s.episode.current = some e)
    (hmax : e.involved.length < s.config.fMax) (i : Slot) (c : Code) (route : Nat) :
    s.offerToEpisode i c route =
      let t := s.listSlot i c route
      if e.phase = .isolate then t
      else if e.phase = .bypass then t.startFaulted i
      else if e.phase = .magnetize ∨ e.phase = .handover then t.reisolate
      else (t.startFaulted i).setPhase .bypass := by
  simp only [State.offerToEpisode, he, if_neg (Nat.not_le.mpr hmax)]
  cases e.phase <;> simp

/-- A re-isolation up to the entry to ISOLATE: the ramp abandoned, the capture absent, one re-isolation more,
and from HANDOVER the handover timer stopped and the window started anew (R80, R81). -/
def State.reisolated (e : EpisodeRecord) (s : State) : State :=
  { s with
    mod := { s.mod with mag := 0, rampPos := 0, rampDone := false }
    episode := { s.episode with
      window := if e.phase = .handover
        then some { start := s.partTime, length := 1000 * s.config.window } else s.episode.window
      handover := if e.phase = .handover then none else s.episode.handover
      current := some { e with reisolations := min 255 (e.reisolations + 1), capture := none } } }

theorem State.reisolate_eq {e : EpisodeRecord} {s : State} (he : s.episode.current = some e) :
    s.reisolate = (s.reisolated e).enterIsolate := by
  unfold State.reisolate State.reisolated
  by_cases h : e.phase = .handover
  · simp [State.phase, he, h, State.mapEpisode, bump, State.timer, State.abandonRamp]
  · simp [State.phase, he, h, State.mapEpisode, bump, State.abandonRamp]

/-- The start of a bypass neither reads nor changes the episode (R7). -/
theorem State.startFaulted_setEpisode (i : Slot) (s : State) (e : EpisodeCtl) :
    State.startFaulted i { s with episode := e } = { s.startFaulted i with episode := e } :=
  State.enterState_setEpisode (by simp) (by simp) ..

theorem State.startFaulted_episode (i : Slot) (s : State) : (s.startFaulted i).episode = s.episode := by
  have hstart := s.startFaulted_setEpisode i s.episode
  rw [show { s with episode := s.episode } = s from rfl] at hstart
  rw [hstart]

theorem State.startFaulted_setPhase (i : Slot) (p : EpisodePhase) (s : State) :
    (s.startFaulted i).setPhase p = (s.setPhase p).startFaulted i := by
  refine Eq.trans ?_ (s.startFaulted_setEpisode i (s.setPhase p).episode).symm
  unfold State.setPhase State.mapEpisode
  rw [State.startFaulted_episode]

/-- Settles O58: the slot is listed, and then what each phase makes of it. -/
theorem secondFaultsAreListed : Obligations.SecondFaultsAreListed := by
  intro i c route e s he more listed back moving
  have hlist : s.listSlot i c route = listed e.phase := State.listSlot_of_some he i c route
  have hback : (listed e.phase).reisolate = (back e.phase s.episode.settle).enterIsolate :=
    State.reisolate_eq (e := { e with involved := more }) rfl
  have hcurrent : (back e.phase s.episode.settle).episode.current = some { e with
    involved := more, reisolations := min 255 (e.reisolations + 1), capture := none } := rfl
  have hpending : ∃ v ∈ more, v.outcome ≠ .bypassed :=
    ⟨newEntry i c route, List.mem_append_right _ (.head _), by simp [newEntry]⟩
  refine ⟨fun hmax => State.offerToEpisode_full he hmax i c route, fun hmax => ?_⟩
  have hoffer := State.offerToEpisode_listed he hmax i c route
  have hmoving (h : moving) :
      s.offerToEpisode i c route = (back e.phase s.episode.settle).enterIsolate := by
    rw [← hback, hoffer, hlist]
    rcases h with h | h <;> simp [h]
  refine ⟨fun h => by rw [hoffer, hlist, h]; rfl, fun f hf h => ?_, fun h hsettle => ?_,
    fun h hsettle => ?_⟩
  · have hstart : s.offerToEpisode i c route = (listed .bypass).startFaulted i := by
      have hphase : (listed e.phase).setPhase .bypass = listed .bypass := rfl
      rw [hoffer, hlist]
      rcases h with h | h | h
      · rw [h]; rfl
      · rw [← hphase, ← State.startFaulted_setPhase, h]; rfl
      · rw [← hphase, ← State.startFaulted_setPhase, h]; rfl
    exact hstart.trans (State.startFaulted_of_last hf)
  · exact (hmoving h).trans (State.enterIsolate_settle (s := back e.phase s.episode.settle) hcurrent hsettle)
  · rw [hmoving h, State.enterIsolate_bypass hcurrent hsettle hpending]

end Sys2Proof.Machine
end

section
/-! The result of a gate and its judgement (R71, R86, R110 to R117). -/

namespace Sys2Proof.Machine

/-! ## The result of a gate -/

/-- The magnitude of a gate's frequency before saturation (R111). -/
def Gate.magnitude (g : Gate) : Nat :=
  if g.count.natAbs < 2 then 0
  else divHalfUp (g.count.natAbs * g.polePairs * 25000) (g.encoderLines * g.length)

theorem divHalfUp_zero (b : Nat) : divHalfUp 0 b = 0 := by
  rcases Nat.eq_zero_or_pos b with h | h
  · simp [divHalfUp, h]
  · exact Nat.div_eq_of_lt (by omega)

/-- A gate's frequency has the sign of its count (R111). -/
theorem gateFrequency_eq (g : Gate) :
    gateFrequency g = if g.count < 0 then -(g.magnitude : Int) else (g.magnitude : Int) := by
  unfold gateFrequency Gate.magnitude
  by_cases h2 : g.count.natAbs < 2
  · simp [h2]
  · have hcount : g.count ≠ 0 := by omega
    simp only [if_neg h2, divHalfAway, Int.natAbs_mul, Int.natAbs_natCast, Int.sign_mul]
    rcases Nat.eq_zero_or_pos g.polePairs with hp | hp
    · simp [hp, divHalfUp_zero]
    · rw [Int.sign_eq_one_of_pos (by exact_mod_cast hp : (0 : Int) < g.polePairs)]
      rw [show Int.sign 25000 = 1 by decide]
      split
      · next hneg => simp [Int.sign_eq_neg_one_of_neg hneg]
      · next hneg => simp [Int.sign_eq_one_of_pos (show 0 < g.count by omega)]

/-- The speed result a gate gives: its frequency held within 32767 (R111). -/
theorem Gate.result_eq (g : Gate) (now : PartTime) : g.result now =
    { f := if g.count < 0 then -(min 32767 g.magnitude : Nat) else (min 32767 g.magnitude : Nat)
      count := g.count
      valid := decide (g.illegal < 8)
      saturated := decide (32767 < g.magnitude)
      time := now } := by
  unfold Gate.result
  rw [gateFrequency_eq]
  by_cases h : g.count < 0 <;> simp [h]

/-! ## The judgement of a speed result -/

/-- A gate completion at its time: the result, the next gate and the judgement (R110, R112). -/
theorem execGateCompletion_due {g : Gate} {s : State} (hs : s.inReset = false) (hg : s.speed.gate = some g)
    (hdue : 1000 * g.length ≤ (s.partTime - g.start).toNat) : exec .gateCompletion s =
      .next (State.judgeSpeed s.speed.last (g.result s.partTime) { s with speed := { s.speed with
        last := g.result s.partTime, gate := some s.newGate } }) := by
  refine (live_of_not_inReset hs).trans (congrArg _ ?_)
  simp only [State.gateCompletion, hg, Gate.due_eq_true, hdue, if_true]

/-- The guards in STOPPED and RUNNING in their order (R113, R115, R116). -/
theorem State.judgeSpeed_halts {s : State} (hd : s.drive.state = .stopped ∨ s.drive.state = .running)
    (before r : SpeedResult) : s.judgeSpeed before r =
      if s.config.fOver < r.f.natAbs then s.halt 0x5001 else if r.valid then s else s.halt 0x5003 := by
  rcases hd with hd | hd <;> simp [State.judgeSpeed, hd, State.guardHalt, State.overspeed]

/-- The encoder guard in HALTED (R115). -/
theorem State.judgeSpeed_notes {s : State} (hd : s.drive.state = .halted) (before r : SpeedResult) :
    s.judgeSpeed before r =
      if r.valid = false ∧ before.valid = true then s.offer (.faultNoted .speedUnit 0x5003 none) else s := by
  simp only [State.judgeSpeed, hd, State.guardNote]

/-- The guards of an open episode in their order, then the capture (R71, R86, R113 to R117). -/
theorem State.judgeSpeed_rides {e : EpisodeRecord} {s : State} (hd : s.drive.state = .riding)
    (he : s.episode.current = some e) (before r : SpeedResult) : s.judgeSpeed before r =
      if s.config.fOver < r.f.natAbs then s.failEpisode .overspeed 0x5001
      else if e.phase ≠ .handover ∧ e.fTrip.natAbs + s.config.runaway < r.f.natAbs then
        s.failEpisode .runaway 0x5002
      else if r.valid = false then s.failEpisode .encoder 0x5003
      else if e.phase = .capture then s.capture r
      else s := by
  simp only [State.judgeSpeed, hd, he, State.guardRide, State.overspeed, State.runaway, ← Bool.decide_and,
    decide_eq_true_eq]

/-- Settles O59: the result of the gate, then its judgement by the drive state. -/
theorem gateCompletionIsJudged : Obligations.GateCompletionIsJudged := by
  intro g s hs hg hdue d rounded f valid u becomes tooFast
  have hresult : g.result s.partTime = u.speed.last := g.result_eq s.partTime
  have hbecomes {t : State} (h : u.judgeSpeed s.speed.last u.speed.last = t) : becomes t := by
    refine (execGateCompletion_due hs hg hdue).trans (congrArg _ ?_)
    rw [hresult]
    exact h
  refine ⟨fun hd => hbecomes ?_, fun hd => ?_, fun hd => ?_, fun e hd he => ?_⟩
  · have hu : u.drive.state = .unconfigured := hd
    simp only [State.judgeSpeed, hu]
  · have hjudge := State.judgeSpeed_halts (s := u) hd s.speed.last u.speed.last
    refine ⟨fun hfast => hbecomes ?_, fun hfast hvalid => hbecomes ?_, fun hfast hvalid => hbecomes ?_⟩
    · exact hjudge.trans (if_pos hfast)
    · exact hjudge.trans ((if_neg hfast).trans (if_neg (Bool.eq_false_iff.mp hvalid)))
    · exact hjudge.trans ((if_neg hfast).trans (if_pos hvalid))
  · have hjudge := State.judgeSpeed_notes (s := u) hd s.speed.last u.speed.last
    refine ⟨fun hvalid hbefore => hbecomes ?_, fun h => hbecomes ?_⟩
    · exact hjudge.trans (if_pos ⟨hvalid, hbefore⟩)
    · exact hjudge.trans (if_neg fun hboth => by
        rcases h with h | h
        · exact Bool.eq_false_iff.mp hboth.1 h
        · exact Bool.eq_false_iff.mp h hboth.2)
  · intro away
    have hjudge := State.judgeSpeed_rides (s := u) hd he s.speed.last u.speed.last
    have valid_ne (hvalid : valid = true) : ¬u.speed.last.valid = false := fun h =>
      Bool.eq_false_iff.mp h hvalid
    refine ⟨fun hfast => hbecomes ?_, fun hfast haway => hbecomes ?_,
      fun hfast haway hvalid => hbecomes ?_, fun hfast haway hvalid hphase => hbecomes ?_,
      fun hfast haway hvalid hphase => ?_⟩
    · exact hjudge.trans (if_pos hfast)
    · exact hjudge.trans ((if_neg hfast).trans (if_pos haway))
    · exact hjudge.trans ((if_neg hfast).trans ((if_neg haway).trans (if_pos hvalid)))
    · exact hjudge.trans ((if_neg hfast).trans ((if_neg haway).trans
        ((if_neg (valid_ne hvalid)).trans (if_neg hphase))))
    · intro raw
      refine hbecomes (hjudge.trans ((if_neg hfast).trans ((if_neg haway).trans
        ((if_neg (valid_ne hvalid)).trans ((if_pos hphase).trans ?_)))))
      simp only [State.capture, State.mapEpisode, show u.episode.current = some e from he, Option.map_some]
      rfl

end Sys2Proof.Machine
end

section
/-! A condition that each operation of the part keeps is kept by every step. -/

namespace Sys2Proof.Machine

/-! ## Changes beside the drive, the episode and the slots' states -/

/-- Two states that differ at most in the links, the notices, part time, the queues, the tables, the speed
unit's values, and what the slots' records hold beside the slots' states. -/
structure State.Alike (s t : State) : Prop where
  config : t.config = s.config := by simp
  states : ∀ i, (t.slot i).state = (s.slot i).state
  committed : t.committed = s.committed := by simp
  drive : t.drive = s.drive := by simp
  episode : t.episode = s.episode := by simp
  gate : t.speed.gate.isSome = s.speed.gate.isSome := by simp
  mod : t.mod = s.mod := by simp
  brake : t.outputs.brkDemand = s.outputs.brkDemand := by simp
  ride : t.outputs.rideActive = s.outputs.rideActive := by simp

/-- The slots' states where the slot table stands. -/
theorem State.states_of_slots {s t : State} (h : t.slots = s.slots) (i : Slot) :
    (t.slot i).state = (s.slot i).state := congrArg _ (State.slot_congr h i)

/-- A slot's record replaced by one in the same state. -/
theorem State.alike_setSlot {i : Slot} {r : SlotRecord} {s : State} (h : r.state = (s.slot i).state) :
    s.Alike (s.setSlot i r) where
  states j := by
    rw [State.setSlot_slot]
    split
    · next hij => rw [h, hij]
    · rfl

theorem State.alike_offer (b : NoticeBody) (s : State) : s.Alike (s.offer b) where
  states i := by simp

theorem State.alike_setFacts (src : FaultSource) (f : FaultFacts) (s : State) : s.Alike (s.setFacts src f) where
  states i := State.setFacts_state src f i s

theorem State.alike_encoderSample (a b : Bool) (s : State) : s.Alike (s.encoderSample a b) where
  states := State.states_of_slots (by simp)
  gate := by
    unfold State.encoderSample
    cases s.speed.held <;> simp

theorem State.alike_linkReset (s : State) : s.Alike s.linkReset where
  states := State.states_of_slots (by simp)
  brake := by simp [State.linkReset]
  ride := by simp [State.linkReset]

/-! ## What the blocks' own operations are to keep -/

/-- A condition that the operations which the blocks' commands are made of keep. It reads none of what `Alike`
leaves open; every other operation is named, with what holds of the part where it is taken. -/
structure BlockInvariant (P : State → Prop) : Prop where
  reset : ∀ s : State, P s.deviceReset
  alike : ∀ {s t : State}, s.Alike t → P s → P t
  beat : ∀ {s : State}, P s → P s.beat
  -- Halts, failures and the fault intake's rides.
  halt : ∀ {s : State} (c : Code), P s → P (s.halt c)
  fail : ∀ {s : State} (k : FailureCause) (c : Code), P s → P (s.failEpisode k c)
  ride : ∀ {s : State} {i : Slot} (p : PendingFault), (s.slot i).state.candidate = true → P s →
    P (s.rideAction i p)
  -- The changes of state of the bypass line unit.
  stuck : ∀ {s : State} (i : Slot) (c : Code), P s → P (s.enterState i .stuck c)
  bypassed : ∀ {s : State} (i : Slot), P s → P (s.enterState i .bypassed 0)
  returned : ∀ {s : State} {i : Slot}, (s.slot i).state = .returning → P s → P (s.enterState i .active 0)
  -- The episode's checks and events.
  checkBypass : ∀ {s : State}, P s → P s.checkBypass
  recharge : ∀ {s : State}, P s → P s.rechargeCheck
  capture : ∀ {s : State} {e : EpisodeRecord} (r : SpeedResult), s.episode.current = some e →
    e.phase = .capture → P s → P (s.capture r)
  rampCompletion : ∀ {s : State}, P s → P s.rampCompletion
  settleExpiry : ∀ {s : State}, P s → P s.settleExpiry
  windowExpiry : ∀ {s : State}, P s → P s.windowExpiry
  handoverExpiry : ∀ {s : State}, P s → P s.handoverExpiry
  supervisionExpiry : ∀ {s : State}, P s → P s.supervisionExpiry
  -- The accepted requests that change more than `Alike` leaves open.
  configure : ∀ {s : State} {q : Items}, refuseConfigure q s = none → P s → P (s.acceptConfig q)
  start : ∀ {s : State}, refuseStart s = none → P s → P s.acceptStart
  stop : ∀ {s : State}, P s → P s.acceptStop
  clearHalt : ∀ {s : State}, refuseClearHalt s = none → P s → P s.acceptClearHalt
  reference : ∀ {s : State} {q : Items} (r : Reference), refuseReference q s = none → P s →
    P (s.acceptReference r)
  bypassCell : ∀ {s : State} {i : Slot}, refuseBypassCell i s = none → P s →
    P (s.enterState i .bypassing 0)
  returnCell : ∀ {s : State} {i : Slot}, refuseReturnCell i s = none → P s →
    P (s.enterState i .returning 0)

namespace BlockInvariant

variable {P : State → Prop} (hP : BlockInvariant P) {s : State}

include hP

/-! ## Fault intake -/

theorem setFacts (h : P s) (src : FaultSource) (f : FaultFacts) : P (s.setFacts src f) :=
  hP.alike (s.alike_setFacts src f) h

theorem setSlot (h : P s) {i : Slot} {r : SlotRecord} (hr : r.state = (s.slot i).state := by rfl) :
    P (s.setSlot i r) := hP.alike (State.alike_setSlot hr) h

theorem offer (h : P s) (b : NoticeBody) : P (s.offer b) := hP.alike (s.alike_offer b) h

theorem haltAction (h : P s) (c : Code) : P (s.haltAction c) := by
  unfold State.haltAction
  split
  · exact hP.fail _ _ h
  · exact hP.halt _ h
  · exact hP.halt _ h
  · exact h

theorem noteAction (h : P s) (src : FaultSource) (p : PendingFault) : P (s.noteAction src p) := by
  unfold State.noteAction
  dsimp only
  split
  · exact hP.setFacts h ..
  · exact hP.offer (hP.setFacts h ..) _

theorem act (h : P s) {src : FaultSource} (hsrc : src.Sampled s) (p : PendingFault) : P (s.act src p) := by
  unfold State.act
  split
  · exact h
  · exact hP.noteAction h ..
  · exact hP.ride p hsrc h
  · exact hP.haltAction h _
  · exact hP.haltAction h _

theorem settlePending (h : P s) {src : FaultSource} (hsrc : src.Sampled s) (p : PendingFault) :
    P (s.settlePending src p) := by
  unfold State.settlePending
  split
  · exact hP.act (hP.setFacts h ..) (hsrc.setFacts _) p
  · exact hP.setFacts h ..

theorem firstSight (h : P s) {src : FaultSource} (hsrc : src.Sampled s) (c : Code) :
    P (s.firstSight src c) := by
  unfold State.firstSight
  dsimp only
  split
  · exact hP.setFacts h ..
  · exact hP.settlePending h hsrc _

theorem present (h : P s) {src : FaultSource} (hsrc : src.Sampled s) (x : Presentation) :
    P (s.present src x) := by
  unfold State.present
  dsimp only
  split
  · exact hP.setFacts h ..
  · exact hP.setFacts h ..
  · split
    · split
      · exact hP.settlePending h hsrc _
      · exact hP.firstSight h hsrc _
    · exact hP.firstSight h hsrc _

theorem extLineSample (h : P s) (l : ExtLine) (mv : Nat) : P (s.extLineSample l mv) := by
  unfold State.extLineSample
  split
  · exact h
  · exact hP.present (src := .line l) (hP.alike { states := State.states_of_slots (by simp) } h) trivial _

/-! ## Contactors -/

theorem presentBypassCode (h : P s) (c : Code) : P (s.presentBypassCode c) := by
  unfold State.presentBypassCode
  split
  · split
    · exact h
    · exact hP.halt _ h
  · exact hP.fail _ _ h
  · exact h

theorem stick (h : P s) (i : Slot) (c : Code) : P (s.stick i c) :=
  hP.presentBypassCode (hP.stuck i c h) c

theorem completeBypass (h : P s) (i : Slot) (n : Nat) : P (s.completeBypass i n) := by
  have hentered := hP.bypassed i (hP.setSlot h (i := i)
    (r := { s.slot i with contactor := { (s.slot i).contactor with lastClose := some n } }))
  unfold State.completeBypass
  dsimp only
  split
  · exact hP.checkBypass hentered
  · exact hentered

theorem completeReturn (h : P s) {i : Slot} (hi : (s.slot i).state = .returning) (n : Nat) :
    P (s.completeReturn i n) :=
  hP.returned (by simpa using hi) (hP.setSlot h)

theorem pulseGoesOn (h : P s) (i : Slot) : P (s.pulseGoesOn i) := hP.setSlot h

theorem feedbackEffect (h : P s) (i : Slot) (before : Contactor) : P (s.feedbackEffect i before) := by
  have anomaly (b : Bool) (c : Code) : P (if b = true then s.stick i c else s) := by
    split
    · exact hP.stick h i c
    · exact h
  unfold State.feedbackEffect
  dsimp only
  cases hx : (s.slot i).state with
  | absent | stuck => exact h
  | active | parked | faulted | bypassed => exact anomaly _ _
  | bypassing =>
    dsimp only
    split
    · exact h
    · split
      · exact hP.completeBypass h i _
      · exact hP.pulseGoesOn h i
  | returning =>
    dsimp only
    split
    · exact h
    · split
      · exact hP.completeReturn h hx _
      · exact hP.pulseGoesOn h i

theorem feedbackSample (h : P s) (i : Slot) (high : Bool) : P (s.feedbackSample i high) := by
  have hreach : P (s.reach (s.slot i).contactor.sampledAt 100) :=
    hP.alike { states := State.states_of_slots (by simp) } h
  exact hP.feedbackEffect (s := State.setSlot i _ _) (hP.setSlot hreach) i _

theorem pulseTimeout (h : P s) (x : SlotState) (i : Slot) : P (s.pulseTimeout x i) := by
  unfold State.pulseTimeout
  split
  · exact h
  · split
    · exact hP.stick h i _
    · exact h

/-! ## Cell links -/

theorem presentCell (h : P s) (i : Slot) (x : Presentation) : P (s.presentCell i x) := by
  unfold State.presentCell
  split
  · next hi => exact hP.present (src := .slot i) h hi x
  · exact h

theorem takeReport (h : P s) (i : Slot) (r : CellReport) : P (s.takeReport i r) :=
  hP.recharge (hP.presentCell (s := State.setSlot i _ _) (hP.setSlot h) i _)

theorem receiveChar (h : P s) (i : Slot) (b : Byte) : P (s.receiveChar i b) := by
  have hgroup (g : List Byte) : P (s.setGroup i g) := hP.setSlot h
  unfold State.receiveChar
  dsimp only
  split
  · split
    · exact hgroup _
    · unfold State.judgeGroup
      split
      · exact hgroup _
      · exact hP.takeReport h i _
  · exact h

theorem answerMissing (h : P s) (i : Slot) : P (s.answerMissing i) := by
  unfold State.answerMissing
  dsimp only
  split
  · exact hP.presentCell (s := State.setSlot i _ _) (hP.setSlot h) i _
  · exact h

/-! ## The speed unit -/

theorem guardHalt (h : P s) (r : SpeedResult) : P (s.guardHalt r) := by
  unfold State.guardHalt
  split
  · exact hP.halt _ h
  · split
    · exact h
    · exact hP.halt _ h

theorem guardRide (h : P s) {e : EpisodeRecord} (he : s.episode.current = some e) (r : SpeedResult) :
    P (s.guardRide e r) := by
  unfold State.guardRide
  split
  · exact hP.fail _ _ h
  · split
    · exact hP.fail _ _ h
    · split
      · exact hP.fail _ _ h
      · split
        · next hphase => exact hP.capture r he hphase h
        · exact h

theorem judgeSpeed (h : P s) (before r : SpeedResult) : P (s.judgeSpeed before r) := by
  unfold State.judgeSpeed
  split
  · exact h
  · exact hP.guardHalt h r
  · exact hP.guardHalt h r
  · unfold State.guardNote
    split
    · exact hP.offer h _
    · exact h
  · split
    · exact h
    · next he => exact hP.guardRide h he r

theorem gateCompletion (h : P s) : P s.gateCompletion := by
  unfold State.gateCompletion
  split
  · exact h
  · next g hg =>
    split
    · refine hP.judgeSpeed (hP.alike ?_ h) _ _
      exact { states := fun _ => rfl, gate := by simp [hg] }
    · exact h

/-! ## The requests -/

theorem serveBypassCell (h : P s) (q : Items) : P (serveBypassCell q s).1 := by
  unfold Machine.serveBypassCell
  split
  · exact serveWith_keeps h h
  · exact serveWith_keeps_accepted h fun hc => hP.bypassCell hc h

theorem serveReturnCell (h : P s) (q : Items) : P (serveReturnCell q s).1 := by
  unfold Machine.serveReturnCell
  split
  · exact serveWith_keeps h h
  · exact serveWith_keeps_accepted h fun hc => hP.returnCell hc h

theorem serveKind (h : P s) (k : RequestKind) (q : Items) : P (serveKind k q s).1 := by
  cases k
  case configure => exact serveWith_keeps_accepted h fun hc => hP.configure hc h
  case start => exact serveWith_keeps_accepted h fun hc => hP.start hc h
  case stop => exact serveWith_keeps h (hP.stop h)
  case clearHalt => exact serveWith_keeps_accepted h fun hc => hP.clearHalt hc h
  case reference => exact serveWith_keeps_accepted h fun hc => hP.reference _ hc h
  case bypassCell => exact hP.serveBypassCell h q
  case returnCell => exact hP.serveReturnCell h q
  case readConfig | readCells | planList | readEpisode | readStatus => exact serveWith_keeps h h
  case planPut | planDrop | planClear | takeNotices | noticeMask =>
    exact serveWith_keeps h (hP.alike { states := State.states_of_slots (by simp) } h)
  case linkReset => exact serveWith_keeps h (hP.alike s.alike_linkReset h)
  case routeSet | routeRead | extSet | readCell =>
    simp only [Machine.serveKind, serveRouteSet, serveRouteRead, serveExtSet, serveReadCell]
    split <;> exact serveWith_keeps h (hP.alike { states := State.states_of_slots (by simp) } h)

/-! ## Every step -/

/-- What the blocks' operations keep, every step keeps. -/
theorem step {t : State} (h : P s) (hstep : step s = .next t) : P t := by
  have plain {u v : State} (hu : P u) (huv : u.Alike v) : P v := hP.alike huv hu
  refine step_keeps (P := P) (fun s x h => plain h { states := fun _ => rfl })
    (fun s l h => plain h { states := fun _ => rfl }) (fun c s t hs hexec => ?_) h hstep
  exact exec_keeps (P := P) (fun s l h => plain h { states := fun _ => rfl })
    (fun s b h => plain h { states := fun _ => rfl })
    hP.reset (fun k q s h => hP.serveKind h k q)
    (fun s h => hP.beat h) (fun s h => hP.rampCompletion h) (fun i b s h => hP.receiveChar h i b)
    (fun i s h => hP.answerMissing h i) (fun l mv s h => hP.extLineSample h l mv)
    (fun i b s h => hP.feedbackSample h i b) (fun x i s hx h => hP.pulseTimeout h x i)
    (fun s h => hP.gateCompletion h) (fun s h => hP.settleExpiry h) (fun s h => hP.windowExpiry h)
    (fun s h => hP.handoverExpiry h) (fun s h => hP.supervisionExpiry h)
    (fun a b s h => plain h (s.alike_encoderSample a b)) hs hexec

end BlockInvariant

end Sys2Proof.Machine
end

section
/-! The protective lines and what stands in one drive state alone (R63, R110, R130, R131, R136, R139, R142). -/

namespace Sys2Proof.Machine

/-! ## What the condition rests on -/

/-- An episode that is open stands in RIDING. -/
theorem LinesFollowDrive.riding_of_current {s : State} (h : LinesFollowDrive s) {e : EpisodeRecord}
    (he : s.episode.current = some e) : s.drive.state = .riding := by
  simpa [he] using h.episode

/-- The condition depends on the drive state controller, the two lines, and whether an episode is open and a
gate runs. -/
theorem LinesFollowDrive.congr {s t : State} (h : LinesFollowDrive s) (hdrive : t.drive = s.drive := by simp)
    (hbrake : t.outputs.brkDemand = s.outputs.brkDemand := by simp)
    (hride : t.outputs.rideActive = s.outputs.rideActive := by simp)
    (hopen : t.episode.current.isSome = s.episode.current.isSome := by simp)
    (hgate : t.speed.gate.isSome = s.speed.gate.isSome := by simp) : LinesFollowDrive t := by
  obtain ⟨brake, ride, episode, haltCause, supervision, gate, reference⟩ := h
  constructor
  · rw [hbrake, hdrive, brake]
  · rw [hride, hdrive, ride]
  · rw [hopen, hdrive, episode]
  · rw [hdrive, haltCause]
  · rw [hdrive, supervision]
  · rw [hgate, hdrive, gate]
  · rw [hdrive]; exact reference

/-! ## The episode's phases -/

theorem LinesFollowDrive.mapEpisode {s : State} (h : LinesFollowDrive s) (f : EpisodeRecord → EpisodeRecord) :
    LinesFollowDrive (s.mapEpisode f) := h.congr

theorem LinesFollowDrive.setPhase {s : State} (h : LinesFollowDrive s) (p : EpisodePhase) :
    LinesFollowDrive (s.setPhase p) := h.congr

theorem LinesFollowDrive.offer {s : State} (h : LinesFollowDrive s) (b : NoticeBody) :
    LinesFollowDrive (s.offer b) := h.congr

theorem LinesFollowDrive.enterState {s : State} (h : LinesFollowDrive s) (i : Slot) (x : SlotState)
    (c : Code) : LinesFollowDrive (s.enterState i x c) := h.congr

theorem LinesFollowDrive.startFaulted {s : State} (h : LinesFollowDrive s) (i : Slot) :
    LinesFollowDrive (s.startFaulted i) := h.enterState ..

theorem LinesFollowDrive.startAllFaulted {s : State} (h : LinesFollowDrive s) (p : Slot → Bool) :
    LinesFollowDrive (s.startAllFaulted p) := h.congr

/-- A commit changes no output but ATTN. -/
@[simp] theorem State.commit_lines (s : State) : s.commit.outputs.brkDemand = s.outputs.brkDemand ∧
    s.commit.outputs.rideActive = s.outputs.rideActive := by
  rw [State.commit_eq, (State.committedTo_frame ..).2.2.2, State.settled]
  exact ⟨State.eachSlot_reads (fun t => t.outputs.brkDemand) (by simp) s,
    State.eachSlot_reads (fun t => t.outputs.rideActive) (by simp) s⟩

theorem LinesFollowDrive.commit {s : State} (h : LinesFollowDrive s) : LinesFollowDrive s.commit :=
  h.congr (hopen := by rw [State.commit_episode])

/-- A failure leaves RIDING for HALTED with its cause, BRK_DEMAND asserted and RIDE_ACTIVE released (R89). -/
theorem LinesFollowDrive.failEpisode {s : State} (h : LinesFollowDrive s) (k : FailureCause) (c : Code) :
    LinesFollowDrive (s.failEpisode k c) := by
  cases he : s.episode.current with
  | none => rwa [State.failEpisode_of_none he]
  | some e =>
    have hd := h.riding_of_current he
    rw [State.failEpisode_of_some he]
    refine LinesFollowDrive.startAllFaulted (LinesFollowDrive.offer ?_ _) _
    exact
      { brake := by simp [DriveState.brakes]
        ride := by simp
        episode := by simp
        haltCause := by simp
        supervision := by simpa [hd] using h.supervision
        gate := by simpa [hd] using h.gate
        reference := by simpa [hd] using h.reference }

theorem LinesFollowDrive.enterPlan {s : State} (h : LinesFollowDrive s) : LinesFollowDrive s.enterPlan := by
  unfold State.enterPlan
  dsimp only
  split
  · exact (h.setPhase .plan).failEpisode _ _
  · exact (h.setPhase .plan).commit.mapEpisode _

theorem LinesFollowDrive.checkBypass {s : State} (h : LinesFollowDrive s) :
    LinesFollowDrive s.checkBypass := by
  unfold State.checkBypass
  split
  · exact h
  · split
    · exact h.enterPlan
    · exact h

theorem LinesFollowDrive.enterBypass {s : State} (h : LinesFollowDrive s) :
    LinesFollowDrive s.enterBypass := by
  have hphase : LinesFollowDrive { s.setPhase .bypass with
      episode := { (s.setPhase .bypass).episode with settle := none } } := h.congr
  unfold State.enterBypass
  exact (hphase.startAllFaulted _).checkBypass

theorem LinesFollowDrive.enterIsolate {s : State} (h : LinesFollowDrive s) :
    LinesFollowDrive s.enterIsolate := by
  unfold State.enterIsolate
  dsimp only
  split
  · exact (h.setPhase .isolate).enterBypass
  · exact h.congr

/-! ## Opening, second faults and the close -/

/-- The opening leaves RUNNING for RIDING, the timer stopped and the reference dropped (R65). -/
theorem LinesFollowDrive.openEpisode {s : State} (h : LinesFollowDrive s) (hd : s.drive.state = .running)
    (i : Slot) (c : Code) (k : Nat) : LinesFollowDrive (s.openEpisode i c k) := by
  have hbegin : LinesFollowDrive (s.beginEpisode i c k) :=
    { brake := by simpa [hd, DriveState.brakes] using h.brake
      ride := by simp
      episode := by simp
      haltCause := by simpa [hd] using h.haltCause
      supervision := by simp
      gate := by simpa [hd] using h.gate
      reference := by simp }
  exact (hbegin.offer _).enterIsolate

theorem LinesFollowDrive.reisolate {s : State} (h : LinesFollowDrive s) : LinesFollowDrive s.reisolate := by
  unfold State.reisolate
  dsimp only
  split <;> exact LinesFollowDrive.enterIsolate h.congr

theorem LinesFollowDrive.offerToEpisode {s : State} (h : LinesFollowDrive s) (i : Slot) (c : Code) (k : Nat) :
    LinesFollowDrive (s.offerToEpisode i c k) := by
  have hlist : LinesFollowDrive (s.listSlot i c k) := h.congr
  cases he : s.episode.current with
  | none => rwa [State.offerToEpisode_of_none he]
  | some e =>
    by_cases hmax : e.involved.length < s.config.fMax
    · rw [State.offerToEpisode_listed he hmax]
      dsimp only
      split
      · exact hlist
      · split
        · exact hlist.startFaulted i
        · split
          · exact hlist.reisolate
          · exact (hlist.startFaulted i).setPhase _
    · rw [State.offerToEpisode_full he (Nat.not_lt.mp hmax)]
      exact h.failEpisode _ _

theorem LinesFollowDrive.rideAction {s : State} (h : LinesFollowDrive s) (i : Slot) (p : PendingFault) :
    LinesFollowDrive (s.rideAction i p) := by
  have hfaulted : LinesFollowDrive (s.enterState i .faulted p.code) := h.enterState ..
  unfold State.rideAction
  dsimp only
  split
  · exact hfaulted
  · exact hfaulted.startFaulted i
  · exact hfaulted.startFaulted i
  · next hd => exact hfaulted.openEpisode hd ..
  · exact hfaulted.offerToEpisode ..

/-- The RESTORED close leaves RIDING for RUNNING with a reference in force and the timer running (R75). -/
theorem LinesFollowDrive.closeRestored {s : State} (h : LinesFollowDrive s) (r : Reference) :
    LinesFollowDrive (s.closeRestored r) := by
  cases he : s.episode.current with
  | none =>
    have hidle : s.closeRestored r = s := by simp only [State.closeRestored, he]
    rwa [hidle]
  | some e =>
    have hd := h.riding_of_current he
    rw [State.closeRestored_of_some he]
    refine LinesFollowDrive.startAllFaulted ?_ _
    exact
      { brake := by simpa [hd, DriveState.brakes] using h.brake
        ride := by simp
        episode := by simp
        haltCause := by simpa [hd] using h.haltCause
        supervision := by simp
        gate := by simpa [hd] using h.gate
        reference := by simp }

theorem LinesFollowDrive.rampCompletion {s : State} (h : LinesFollowDrive s) :
    LinesFollowDrive s.rampCompletion := by
  unfold State.rampCompletion
  split
  · exact h
  · split
    · split
      · exact h
      · exact h.congr
    · exact h

theorem LinesFollowDrive.settleExpiry {s : State} (h : LinesFollowDrive s) :
    LinesFollowDrive s.settleExpiry := by
  have hstopped : LinesFollowDrive { s with episode := { s.episode with settle := none } } := h.congr
  unfold State.settleExpiry
  split
  · exact h
  · split
    · dsimp only
      split
      · exact hstopped.enterBypass
      · exact hstopped
    · exact h

theorem LinesFollowDrive.windowExpiry {s : State} (h : LinesFollowDrive s) :
    LinesFollowDrive s.windowExpiry := by
  unfold State.windowExpiry
  split
  · exact h
  · split
    · exact LinesFollowDrive.failEpisode h.congr _ _
    · exact h

theorem LinesFollowDrive.handoverExpiry {s : State} (h : LinesFollowDrive s) :
    LinesFollowDrive s.handoverExpiry := by
  unfold State.handoverExpiry
  split
  · exact h
  · split
    · exact LinesFollowDrive.failEpisode h.congr _ _
    · exact h

/-! ## Halts -/

/-- A halt leaves STOPPED or RUNNING for HALTED with its cause (R141, R142). -/
theorem LinesFollowDrive.halt {s : State} (h : LinesFollowDrive s) (c : Code) :
    LinesFollowDrive (s.halt c) := by
  unfold State.halt
  split
  · next hd =>
    refine LinesFollowDrive.offer ?_ _
    exact
      { brake := by simp [DriveState.brakes]
        ride := by simpa [hd] using h.ride
        episode := by simpa [hd] using h.episode
        haltCause := by simp
        supervision := by simp
        gate := by simpa [hd] using h.gate
        reference := by simp }
  · next hd =>
    refine LinesFollowDrive.offer ?_ _
    exact
      { brake := by simp [DriveState.brakes]
        ride := by simpa [hd] using h.ride
        episode := by simpa [hd] using h.episode
        haltCause := by simp
        supervision := by simpa [hd] using h.supervision
        gate := by simpa [hd] using h.gate
        reference := by simpa [hd] using h.reference }
  · exact h

/-- The supervision timer runs in RUNNING alone, so its expiry halts (R139, R140). -/
theorem LinesFollowDrive.supervisionExpiry {s : State} (h : LinesFollowDrive s) :
    LinesFollowDrive s.supervisionExpiry := by
  by_cases hdue : ∃ t, s.drive.supervision = some t ∧ t.length ≤ (s.partTime - t.start).toNat
  · obtain ⟨t, ht, hdue⟩ := hdue
    have hd : s.drive.state = .running := by simpa [ht] using h.supervision
    rw [State.supervisionExpiry_due hd ht hdue]
    exact h.halt _
  · rwa [State.supervisionExpiry_idle hdue]

/-! ## The requests -/

/-- The first CONFIGURE leaves UNCONFIGURED for STOPPED, BRK_DEMAND released and a gate running (R110, R129,
R130). -/
theorem LinesFollowDrive.acceptConfig {s : State} (h : LinesFollowDrive s) (q : Items) :
    LinesFollowDrive (s.acceptConfig q) := by
  unfold State.acceptConfig
  dsimp only
  split
  · next hd =>
    refine LinesFollowDrive.offer ?_ _
    exact
      { brake := by simp [DriveState.brakes]
        ride := by simpa [hd] using h.ride
        episode := by simpa [hd] using h.episode
        haltCause := by simpa [hd] using h.haltCause
        supervision := by simpa [hd] using h.supervision
        gate := by simp
        reference := by simpa [hd] using h.reference }
  · exact h.congr

/-- START leaves STOPPED for RUNNING with the timer running and no reference (R133). -/
theorem LinesFollowDrive.acceptStart {s : State} (h : LinesFollowDrive s) (hr : refuseStart s = none) :
    LinesFollowDrive s.acceptStart := by
  have hd : s.drive.state = .stopped := of_decide_eq_true (firstRefusal_eq_none.mp hr _ (.head _))
  have hcommit := h.commit
  refine LinesFollowDrive.offer ?_ _
  exact
    { brake := by simpa [hd, DriveState.brakes] using h.brake
      ride := by simpa [hd] using h.ride
      episode := by simpa [hd] using hcommit.episode
      haltCause := by simpa [hd] using h.haltCause
      supervision := by simp
      gate := by simpa [hd] using h.gate
      reference := by simp }

/-- STOP leaves RUNNING for STOPPED, or fails the open episode (R88, R135). -/
theorem LinesFollowDrive.acceptStop {s : State} (h : LinesFollowDrive s) : LinesFollowDrive s.acceptStop := by
  unfold State.acceptStop
  split
  · next hd =>
    refine LinesFollowDrive.offer ?_ _
    exact
      { brake := by simpa [hd, DriveState.brakes] using h.brake
        ride := by simpa [hd] using h.ride
        episode := by simpa [hd] using h.episode
        haltCause := by simpa [hd] using h.haltCause
        supervision := by simp
        gate := by simpa [hd] using h.gate
        reference := by simp }
  · exact h.failEpisode _ _
  · exact h

/-- CLEAR_HALT leaves HALTED for STOPPED, the halt cause cleared and BRK_DEMAND released (R144). -/
theorem LinesFollowDrive.acceptClearHalt {s : State} (h : LinesFollowDrive s)
    (hr : refuseClearHalt s = none) : LinesFollowDrive s.acceptClearHalt := by
  have hd : s.drive.state = .halted := of_decide_eq_true (firstRefusal_eq_none.mp hr _ (.head _))
  refine LinesFollowDrive.offer ?_ _
  exact
    { brake := by simp [DriveState.brakes]
      ride := by simpa [hd] using h.ride
      episode := by simpa [hd] using h.episode
      haltCause := by simp
      supervision := by simpa [hd] using h.supervision
      gate := by simpa [hd] using h.gate
      reference := by simpa [hd] using h.reference }

/-- REFERENCE is accepted in RUNNING and in HANDOVER alone (R137). -/
theorem refuseReference_eq_none {q : Items} {s : State} (h : refuseReference q s = none) :
    s.drive.state = .running ∨ (s.drive.state = .riding ∧ s.phase = some .handover) := by
  by_contra hd
  rw [refuseReference, if_neg hd] at h
  exact absurd h (by simp)

/-- REFERENCE restarts the timer in RUNNING, and takes RIDING to RUNNING (R75, R138). -/
theorem LinesFollowDrive.acceptReference {s : State} (h : LinesFollowDrive s) {q : Items} (r : Reference)
    (hr : refuseReference q s = none) : LinesFollowDrive (s.acceptReference r) := by
  unfold State.acceptReference
  split
  · exact h.closeRestored r
  · next hriding =>
    have hd : s.drive.state = .running := (refuseReference_eq_none hr).resolve_right fun hd => hriding hd.1
    exact
      { h with
        supervision := by simp [hd]
        reference := fun _ => hd }

/-! ## Every step -/

/-- Settles O8: each operation that changes the drive state changes the rest with it. -/
theorem protectiveLinesFollowTheDriveState : Obligations.ProtectiveLinesFollowTheDriveState := by
  have hblocks : BlockInvariant LinesFollowDrive :=
    { reset := fun s => ⟨rfl, rfl, rfl, rfl, rfl, rfl, nofun⟩
      alike := fun a h => h.congr a.drive a.brake a.ride (by rw [a.episode]) a.gate
      beat := fun h => h.congr
      halt := fun c h => h.halt c
      fail := fun k c h => h.failEpisode k c
      ride := fun p _ h => h.rideAction _ p
      stuck := fun i c h => h.enterState i _ c
      bypassed := fun i h => h.enterState i _ 0
      returned := fun _ h => h.enterState _ _ 0
      checkBypass := fun h => h.checkBypass
      recharge := fun h => by
        unfold State.rechargeCheck
        split
        · exact h.setPhase _
        · exact h
      capture := fun r _ _ h => h.congr (hopen := by simp [State.capture])
      rampCompletion := fun h => h.rampCompletion
      settleExpiry := fun h => h.settleExpiry
      windowExpiry := fun h => h.windowExpiry
      handoverExpiry := fun h => h.handoverExpiry
      supervisionExpiry := fun h => h.supervisionExpiry
      configure := fun _ h => h.acceptConfig _
      start := fun hr h => h.acceptStart hr
      stop := fun h => h.acceptStop
      clearHalt := fun hr h => h.acceptClearHalt hr
      reference := fun r hr h => h.acceptReference r hr
      bypassCell := fun _ h => h.enterState _ _ 0
      returnCell := fun _ h => h.enterState _ _ 0 }
  exact fun s t hs hstep => hblocks.step hs hstep

end Sys2Proof.Machine
end

section
/-! The records of the episode controller (R62 to R66, R69, R80, R90, R91). -/

namespace Sys2Proof.Machine

/-! ## The open record and its phase -/

/-- The states of a slot that the open record lists (R64). -/
def SlotState.Isolated (x : SlotState) : Prop :=
  x = .faulted ∨ x = .bypassing ∨ x = .bypassed ∨ x = .stuck

/-- The slots an episode lists, in order. -/
def EpisodeRecord.slots (e : EpisodeRecord) : List Slot := e.involved.map (·.slot)

/-- What the condition on the open record says of every phase, PLAN included: its number, that it is not
decided, and its list (R62, R64). -/
structure EpisodeRecord.Whole (s : State) (e : EpisodeRecord) : Prop where
  number : 1 ≤ e.number ∧ e.number ≤ 65535
  undecided : e.outcome = none ∧ e.closed = none
  length : 1 ≤ e.slots.length ∧ e.slots.length ≤ s.config.fMax
  once : e.slots.Nodup
  isolated : ∀ i ∈ e.slots, (s.slot i).state.Isolated

/-- What the condition on the open record says of its phase (R66, R69, R80). -/
structure EpisodeRecord.Phased (c : EpisodeCtl) (e : EpisodeRecord) : Prop where
  passed : e.phase ≠ .plan
  capture : e.capture.isSome = (decide (e.phase = .magnetize) || decide (e.phase = .handover))
  plan : e.phase ≠ .isolate → e.phase ≠ .bypass → e.plan.isSome = true
  settle : c.settle.isSome = decide (e.phase = .isolate)
  window : c.window.isSome = decide (e.phase ≠ .handover)
  handover : c.handover.isSome = decide (e.phase = .handover)

/-- The condition on the open record is the condition on the record and that on its phase. -/
theorem EpisodeRecord.open_iff {s : State} {e : EpisodeRecord} :
    e.Open s ↔ e.Whole s ∧ e.Phased s.episode := by
  constructor
  · intro h
    refine ⟨⟨h.number, h.undecided, by simpa [EpisodeRecord.slots] using h.involved, h.once, ?_⟩,
      ⟨h.passed, h.capture, h.plan, h.settle, h.window, h.handover⟩⟩
    simpa [EpisodeRecord.slots, SlotState.Isolated] using h.listed
  · rintro ⟨w, p⟩
    refine ⟨w.number, w.undecided, by simpa [EpisodeRecord.slots] using w.length, w.once, ?_, p.passed,
      p.capture, p.plan, p.settle, p.window, p.handover⟩
    simpa [EpisodeRecord.slots, SlotState.Isolated] using w.isolated

/-- The record stays whole while its slots stay isolated, whatever its phase, plan and capture become. -/
theorem EpisodeRecord.Whole.mono {s t : State} {e e' : EpisodeRecord} (h : e.Whole s)
    (hstates : ∀ i, (s.slot i).state.Isolated → (t.slot i).state.Isolated)
    (hmax : t.config.fMax = s.config.fMax := by simp) (hslots : e'.slots = e.slots := by rfl)
    (hnumber : e'.number = e.number := by rfl) (houtcome : e'.outcome = e.outcome := by rfl)
    (hclosed : e'.closed = e.closed := by rfl) : e'.Whole t := by
  obtain ⟨number, undecided, length, once, isolated⟩ := h
  constructor
  · rwa [hnumber]
  · rwa [houtcome, hclosed]
  · rwa [hslots, hmax]
  · rwa [hslots]
  · rw [hslots]; exact fun i hi => hstates i (isolated i hi)

/-- The drive rides an episode with this record, and what does not depend on the record's phase holds. -/
structure State.Rides (s : State) (e : EpisodeRecord) : Prop where
  current : s.episode.current = some e
  riding : s.drive.state = .riding
  whole : e.Whole s
  capacity : 1 ≤ s.config.fMax
  counter : s.episode.counter ≤ 65535
  history : s.episode.history.length ≤ 4
  closed : ∀ e ∈ s.episode.history, e.Closed

theorem State.Rides.sound {s : State} {e : EpisodeRecord} (h : s.Rides e) (hphase : e.Phased s.episode) :
    EpisodesSound s where
  capacity := h.capacity
  riding := by simp [h.current, h.riding]
  counter := h.counter
  opened x hx := by
    obtain rfl : e = x := Option.some.inj (h.current.symm.trans hx)
    exact EpisodeRecord.open_iff.mpr ⟨h.whole, hphase⟩
  idle hnone := by simp [h.current] at hnone
  history := h.history
  closed := h.closed

theorem EpisodesSound.phased {s : State} (h : EpisodesSound s) {e : EpisodeRecord}
    (he : s.episode.current = some e) : e.Phased s.episode :=
  (EpisodeRecord.open_iff.mp (h.opened e he)).2

theorem EpisodesSound.rides {s : State} (h : EpisodesSound s) {e : EpisodeRecord}
    (he : s.episode.current = some e) : s.Rides e where
  current := he
  riding := by simpa [he] using h.riding
  whole := (EpisodeRecord.open_iff.mp (h.opened e he)).1
  capacity := h.capacity
  counter := h.counter
  history := h.history
  closed := h.closed

/-- The ride goes on with another record of the same slots, which stay isolated. -/
theorem State.Rides.goesOn {s t : State} {e e' : EpisodeRecord} (h : s.Rides e) (hwhole : e'.Whole t)
    (hcurrent : t.episode.current = some e') (hdrive : t.drive.state = s.drive.state := by simp)
    (hconfig : t.config = s.config := by simp) (hcounter : t.episode.counter = s.episode.counter := by rfl)
    (hhistory : t.episode.history = s.episode.history := by rfl) : t.Rides e' where
  current := hcurrent
  riding := hdrive.trans h.riding
  whole := hwhole
  capacity := hconfig ▸ h.capacity
  counter := hcounter ▸ h.counter
  history := hhistory ▸ h.history
  closed := hhistory ▸ h.closed

/-- The ride goes on with another phase, plan or capture and other timers. -/
theorem State.Rides.with_record {s t : State} {e e' : EpisodeRecord} (h : s.Rides e)
    (hcurrent : t.episode.current = some e') (hslots : t.slots = s.slots := by simp)
    (hdrive : t.drive.state = s.drive.state := by simp) (hconfig : t.config = s.config := by simp)
    (hcounter : t.episode.counter = s.episode.counter := by simp)
    (hhistory : t.episode.history = s.episode.history := by simp) (hlisted : e'.slots = e.slots := by rfl)
    (hnumber : e'.number = e.number := by rfl) (houtcome : e'.outcome = e.outcome := by rfl)
    (hclosed : e'.closed = e.closed := by rfl) : t.Rides e' :=
  h.goesOn (h.whole.mono (fun i hi => by rwa [State.states_of_slots hslots i]) (by rw [hconfig]) hlisted
    hnumber houtcome hclosed) hcurrent hdrive hconfig hcounter hhistory

/-- The ride goes on where only slots have changed, and isolated ones stay so. -/
theorem State.Rides.of_slots {s t : State} {e : EpisodeRecord} (h : s.Rides e)
    (hstates : ∀ i, (s.slot i).state.Isolated → (t.slot i).state.Isolated)
    (hepisode : t.episode = s.episode) (hdrive : t.drive.state = s.drive.state := by simp)
    (hconfig : t.config = s.config := by simp) : t.Rides e :=
  h.goesOn (h.whole.mono hstates (by rw [hconfig])) (by rw [hepisode, h.current]) hdrive hconfig
    (by rw [hepisode]) (by rw [hepisode])

/-! ## Outside an episode -/

theorem EpisodesSound.current_none {s : State} (h : EpisodesSound s) (hd : s.drive.state ≠ .riding) :
    s.episode.current = none := by
  simpa [hd] using h.riding

/-- Outside an episode the condition depends on F_max and the episode controller. -/
theorem EpisodesSound.of_idle {s t : State} (h : EpisodesSound s) (he : s.episode.current = none)
    (hd : t.drive.state ≠ .riding) (hepisode : t.episode = s.episode := by simp)
    (hmax : 1 ≤ t.config.fMax) : EpisodesSound t where
  capacity := hmax
  riding := by simp [hepisode, he, hd]
  counter := hepisode ▸ h.counter
  opened e hx := by simp [hepisode, he] at hx
  idle _ := hepisode ▸ h.idle he
  history := hepisode ▸ h.history
  closed := hepisode ▸ h.closed

/-! ## Changes of state -/

/-- Slots change, isolated ones stay so, and the entries of the open record change but for their slots. -/
theorem EpisodesSound.of_entries {s t : State} (h : EpisodesSound s) (g : InvolvedEntry → InvolvedEntry)
    (hg : ∀ v, (g v).slot = v.slot)
    (hstates : ∀ i, (s.slot i).state.Isolated → (t.slot i).state.Isolated)
    (hepisode : t.episode = { s.episode with
      current := s.episode.current.map fun e => { e with involved := e.involved.map g } })
    (hdrive : t.drive.state = s.drive.state := by simp) (hconfig : t.config = s.config := by simp) :
    EpisodesSound t := by
  cases he : s.episode.current with
  | none =>
    have hd : s.drive.state ≠ .riding := fun hd => by simpa [he, hd] using h.riding
    refine h.of_idle he (by rwa [hdrive]) ?_ (hconfig ▸ h.capacity)
    rw [hepisode, he, Option.map_none, ← he]
  | some e =>
    rw [he, Option.map_some] at hepisode
    have hslots : EpisodeRecord.slots { e with involved := e.involved.map g } = e.slots := by
      simp [EpisodeRecord.slots, hg]
    have hrides := h.rides he
    refine (hrides.goesOn (hrides.whole.mono (e' := { e with involved := e.involved.map g }) hstates
      (by rw [hconfig]) hslots) (by rw [hepisode]) hdrive hconfig (by rw [hepisode])
      (by rw [hepisode])).sound ?_
    obtain ⟨passed, capture, plan, settle, window, handover⟩ := h.phased he
    rw [hepisode]
    exact ⟨passed, capture, plan, settle, window, handover⟩

/-- Slots change, isolated ones stay so, and the episode controller stands. -/
theorem EpisodesSound.of_states {s t : State} (h : EpisodesSound s)
    (hstates : ∀ i, (s.slot i).state.Isolated → (t.slot i).state.Isolated)
    (hepisode : t.episode = s.episode := by simp)
    (hdrive : t.drive.state = s.drive.state := by simp) (hconfig : t.config = s.config := by simp) :
    EpisodesSound t :=
  h.of_entries id (fun _ => rfl) hstates (by rw [hepisode]; simp) hdrive hconfig

theorem EpisodesSound.alike {s t : State} (h : EpisodesSound s) (a : s.Alike t) : EpisodesSound t :=
  h.of_states (fun i hi => by rwa [a.states i]) a.episode (by rw [a.drive]) a.config

theorem EpisodesSound.beat {s : State} (h : EpisodesSound s) : EpisodesSound s.beat :=
  h.of_states fun i hi => by
    rw [State.beat_slot]
    split <;> exact hi

theorem InvolvedEntry.follow_slot (v : InvolvedEntry) (i : Slot) (r : SlotRecord) :
    (v.follow i r).slot = v.slot := by
  unfold InvolvedEntry.follow
  (repeat' split) <;> rfl

/-- A slot enters a state in which it may be listed, or one that is not listed enters any state (R64). -/
theorem EpisodesSound.enterState {s : State} (h : EpisodesSound s) {i : Slot} {x : SlotState} (c : Code)
    (hx : x.Isolated ∨ ¬(s.slot i).state.Isolated) : EpisodesSound (s.enterState i x c) := by
  refine h.of_entries _ (fun v => v.follow_slot i _) (fun j hj => ?_) (State.enterState_episode i x c s)
  rw [State.enterState_slot]
  split
  · next hij =>
    subst hij
    exact hx.resolve_right (not_not_intro hj)
  · exact hj

theorem SlotState.not_isolated_of_candidate {x : SlotState} (h : x.candidate = true) : ¬x.Isolated := by
  cases x <;> simp_all [SlotState.candidate, SlotState.Isolated]

/-- The start of the waiting bypasses leaves isolated slots isolated (R7). -/
theorem State.startAllFaulted_isolated (p : Slot → Bool) (s : State) (i : Slot)
    (h : (s.slot i).state.Isolated) : ((s.startAllFaulted p).slot i).state.Isolated := by
  rw [State.startAllFaulted_eq, State.eachSlot_enterIf_slot]
  split
  · exact .inr (.inl rfl)
  · exact h

/-- A commit changes candidates alone (R103, R104). -/
theorem State.commit_isolated (s : State) (i : Slot) (h : (s.slot i).state.Isolated) :
    (s.commit.slot i).state.Isolated := by
  rw [State.commit_eq, State.committedTo_slot, State.settled, State.eachSlot_enterIf_slot, if_neg ?_]
  · exact h
  · intro hc
    simp only [State.settles, Bool.and_eq_true] at hc
    exact SlotState.not_isolated_of_candidate hc.1 h

theorem State.Rides.startAllFaulted {s : State} {e : EpisodeRecord} (h : s.Rides e) (p : Slot → Bool) :
    (s.startAllFaulted p).Rides e :=
  h.of_slots (s.startAllFaulted_isolated p) (State.startAllFaulted_episode p s)

theorem State.Rides.commit {s : State} {e : EpisodeRecord} (h : s.Rides e) : s.commit.Rides e :=
  h.of_slots s.commit_isolated s.commit_episode

/-! ## Closes -/

/-- The open record closed enters the history, no timer runs and the drive rides no more (R90). -/
theorem State.Rides.close {s t : State} {e x : EpisodeRecord} (h : s.Rides e) (hx : x.Closed)
    (hepisode : t.episode = { s.episode with
      current := none, settle := none, window := none, handover := none
      history := (x :: s.episode.history).take 4 })
    (hd : t.drive.state ≠ .riding) (hconfig : t.config = s.config := by simp) : EpisodesSound t where
  capacity := hconfig ▸ h.capacity
  riding := by simp [hepisode, hd]
  counter := by rw [hepisode]; exact h.counter
  opened y hy := by simp [hepisode] at hy
  idle _ := by simp [hepisode]
  history := by rw [hepisode]; exact List.length_take_le ..
  closed y hy := by
    rw [hepisode] at hy
    rcases List.mem_cons.mp (List.mem_of_mem_take hy) with rfl | hy
    · exact hx
    · exact h.closed y hy

theorem EpisodeRecord.Whole.involved_ne_nil {s : State} {e : EpisodeRecord} (h : e.Whole s) :
    e.involved ≠ [] := by
  intro hnil
  simpa [EpisodeRecord.slots, hnil] using h.length

/-- A failure closes the record FAILED (R89, R91). -/
theorem State.Rides.failEpisode {s : State} {e : EpisodeRecord} (h : s.Rides e) (k : FailureCause)
    (c : Code) : EpisodesSound (s.failEpisode k c) := by
  have hclosed : EpisodeRecord.Closed
      { e with outcome := some (.failed k c), closed := some s.partTime } :=
    ⟨rfl, rfl, h.whole.involved_ne_nil, nofun⟩
  rw [State.failEpisode_of_some h.current]
  refine h.close hclosed ?_ (by simp)
  rw [State.startAllFaulted_episode]
  simp

theorem EpisodesSound.failEpisode {s : State} (h : EpisodesSound s) (k : FailureCause) (c : Code) :
    EpisodesSound (s.failEpisode k c) := by
  cases he : s.episode.current with
  | none => rwa [State.failEpisode_of_none he]
  | some e => exact (h.rides he).failEpisode k c

/-- The close by a REFERENCE in HANDOVER leaves a record with its plan and its capture (R75, R91). -/
theorem EpisodesSound.closeRestored {s : State} (h : EpisodesSound s) (hphase : s.phase = some .handover)
    (r : Reference) : EpisodesSound (s.closeRestored r) := by
  cases he : s.episode.current with
  | none => simp [State.phase, he] at hphase
  | some e =>
    have hhandover : e.phase = .handover := by simpa [State.phase, he] using hphase
    have hrides := h.rides he
    obtain ⟨-, capture, plan, -⟩ := h.phased he
    have hclosed : EpisodeRecord.Closed
        { e with outcome := some .restored, closed := some s.partTime } :=
      ⟨rfl, rfl, hrides.whole.involved_ne_nil, fun _ =>
        ⟨plan (by simp [hhandover]) (by simp [hhandover]), by simp [capture, hhandover], hhandover⟩⟩
    rw [State.closeRestored_of_some he]
    refine hrides.close hclosed ?_ (by simp)
    rw [State.startAllFaulted_episode]
    simp

/-! ## From ISOLATE to RECHARGE -/

/-- The window runs with no handover, and nothing is captured: as in every phase before MAGNETIZE (R66). -/
structure EpisodeRecord.Waits (c : EpisodeCtl) (e : EpisodeRecord) : Prop where
  capture : e.capture = none
  window : c.window.isSome = true
  handover : c.handover = none

theorem EpisodeRecord.Phased.waits {c : EpisodeCtl} {e : EpisodeRecord} (h : e.Phased c)
    (hm : e.phase ≠ .magnetize) (hh : e.phase ≠ .handover) : e.Waits c where
  capture := by simpa [hm, hh] using h.capture
  window := by simpa [hh] using h.window
  handover := by simpa [hh] using h.handover

/-- A phase before MAGNETIZE with the timers it has, and the plan from RECHARGE on. -/
theorem EpisodeRecord.Waits.phased {c : EpisodeCtl} {e : EpisodeRecord} (h : e.Waits c)
    (hphase : e.phase = .isolate ∨ e.phase = .bypass ∨
      (e.phase = .recharge ∨ e.phase = .capture) ∧ e.plan.isSome = true)
    (hsettle : c.settle.isSome = decide (e.phase = .isolate)) : e.Phased c where
  passed := by rcases hphase with hp | hp | ⟨hp | hp, -⟩ <;> simp [hp]
  capture := by rcases hphase with hp | hp | ⟨hp | hp, -⟩ <;> simp [hp, h.capture]
  plan hi hb := ((hphase.resolve_left hi).resolve_left hb).2
  settle := hsettle
  window := by rcases hphase with hp | hp | ⟨hp | hp, -⟩ <;> simp [hp, h.window]
  handover := by rcases hphase with hp | hp | ⟨hp | hp, -⟩ <;> simp [hp, h.handover]

/-- The phase set while the ride goes on. -/
theorem State.Rides.setPhase {s : State} {e : EpisodeRecord} (h : s.Rides e) (p : EpisodePhase) :
    (s.setPhase p).Rides { e with phase := p } :=
  h.with_record (by simp [h.current])

/-- Entry to PLAN: the episode fails, or stands in RECHARGE with its plan (R69). -/
theorem State.Rides.enterPlan {s : State} {e : EpisodeRecord} (h : s.Rides e) (hwaits : e.Waits s.episode)
    (hsettle : s.episode.settle = none) : EpisodesSound s.enterPlan := by
  have hplan := h.setPhase .plan
  unfold State.enterPlan
  dsimp only
  split
  · exact hplan.failEpisode _ _
  · have hcommit := hplan.commit
    have hcurrent : (s.setPhase .plan).commit.episode = (s.setPhase .plan).episode := State.commit_episode _
    have hcommitted : (s.setPhase .plan).commit.committed.isSome = true := by
      rw [State.commit_eq, (State.committedTo_frame ..).1]; rfl
    generalize (s.setPhase .plan).commit = t at *
    refine (hcommit.with_record (t := t.mapEpisode _) (e' := { e with
      plan := t.committed.map (·.fields), phase := .recharge }) (by simp [hcommit.current])).sound ?_
    refine EpisodeRecord.Waits.phased ⟨hwaits.capture, ?_, ?_⟩ (.inr (.inr ⟨.inl rfl, ?_⟩)) ?_
    · simpa [hcurrent] using hwaits.window
    · simpa [hcurrent] using hwaits.handover
    · simpa using hcommitted
    · simp [hcurrent, hsettle]

theorem EpisodesSound.checkBypass {s : State} (h : EpisodesSound s) : EpisodesSound s.checkBypass := by
  unfold State.checkBypass
  split
  · exact h
  · next e he =>
    split
    · next hdone =>
      have hphased := h.phased he
      exact (h.rides he).enterPlan (hphased.waits (by simp [hdone.1]) (by simp [hdone.1]))
        (by simpa [hdone.1] using hphased.settle)
    · exact h

/-- Entry to BYPASS, and on to PLAN if every bypass is complete (R67, R68). -/
theorem State.Rides.enterBypass {s : State} {e : EpisodeRecord} (h : s.Rides e)
    (hwaits : e.Waits s.episode) : EpisodesSound s.enterBypass := by
  have hphase := h.setPhase .bypass
  have hstopped : State.Rides { s.setPhase .bypass with
      episode := { (s.setPhase .bypass).episode with settle := none } } { e with phase := .bypass } :=
    hphase.with_record hphase.current
  unfold State.enterBypass
  refine EpisodesSound.checkBypass ((hstopped.startAllFaulted _).sound ?_)
  rw [State.startAllFaulted_episode]
  exact EpisodeRecord.Waits.phased ⟨hwaits.capture, hwaits.window, hwaits.handover⟩ (.inr (.inl rfl)) rfl

/-- Entry to ISOLATE, and on to BYPASS if the settle time is 0 (R65, R67, R80). -/
theorem State.Rides.enterIsolate {s : State} {e : EpisodeRecord} (h : s.Rides e)
    (hwaits : e.Waits s.episode) : EpisodesSound s.enterIsolate := by
  have hphase := h.setPhase .isolate
  unfold State.enterIsolate
  dsimp only
  split
  · exact hphase.enterBypass ⟨hwaits.capture, hwaits.window, hwaits.handover⟩
  · refine State.Rides.sound (e := { e with phase := .isolate })
      (hphase.with_record (t := { s.setPhase .isolate with episode := _ }) hphase.current) ?_
    exact EpisodeRecord.Waits.phased ⟨hwaits.capture, hwaits.window, hwaits.handover⟩ (.inl rfl) rfl

/-! ## Opening and second faults -/

theorem nextNumber_mem {n : Nat} (h : n ≤ 65535) : 1 ≤ nextNumber n ∧ nextNumber n ≤ 65535 := by
  unfold nextNumber
  split <;> omega

/-- The opening lists the slot whose fault opens the episode (R63, R64, R65). -/
theorem EpisodesSound.openEpisode {s : State} (h : EpisodesSound s) (hd : s.drive.state = .running) {i : Slot}
    (hi : (s.slot i).state = .faulted) (c : Code) (k : Nat) : EpisodesSound (s.openEpisode i c k) := by
  obtain ⟨-, -, hhandover⟩ := h.idle (h.current_none (by simp [hd]))
  have hnumber := nextNumber_mem h.counter
  have hrides : (s.beginEpisode i c k).Rides (s.newEpisode i c k) :=
    { current := by simp
      riding := by simp
      whole :=
        { number := hnumber
          undecided := ⟨rfl, rfl⟩
          length := ⟨Nat.le_refl 1, by simpa [EpisodeRecord.slots, State.newEpisode] using h.capacity⟩
          once := List.nodup_singleton i
          isolated := by
            intro j hj
            obtain rfl : j = i := List.mem_singleton.mp hj
            exact .inl ((State.states_of_slots (by simp) j).trans hi) }
      capacity := by simpa using h.capacity
      counter := by simpa using hnumber.2
      history := by simpa using h.history
      closed := by simpa using h.closed }
  have hoffered : (State.offer (.episodeOpened (s.newEpisode i c k).number i c (s.newEpisode i c k).fTrip)
      (s.beginEpisode i c k)).Rides (s.newEpisode i c k) :=
    hrides.of_slots (fun j hj => by rwa [State.offer_slot]) (by simp)
  refine hoffered.enterIsolate ⟨rfl, by simp, ?_⟩
  simpa using hhandover

/-- A second fault's slot, isolated and not yet listed, joins the list (R64, R78). -/
theorem EpisodesSound.listSlot {s : State} (h : EpisodesSound s) {e : EpisodeRecord}
    (he : s.episode.current = some e) (hmax : e.involved.length < s.config.fMax) {i : Slot}
    (hi : (s.slot i).state.Isolated) (hnew : i ∉ e.slots) (c : Code) (k : Nat) :
    EpisodesSound (s.listSlot i c k) := by
  have hrides := h.rides he
  obtain ⟨number, undecided, length, once, isolated⟩ := hrides.whole
  have hslots : EpisodeRecord.slots { e with involved := e.involved ++ [newEntry i c k] } =
      e.slots ++ [i] := by
    simp [EpisodeRecord.slots, newEntry]
  have hwhole : EpisodeRecord.Whole (s.listSlot i c k)
      { e with involved := e.involved ++ [newEntry i c k] } := by
    refine ⟨number, undecided, ?_, ?_, ?_⟩
    · rw [hslots, List.length_append]
      exact ⟨Nat.le_add_left 1 _, by simpa [EpisodeRecord.slots] using hmax⟩
    · rw [hslots]
      exact once.append (List.nodup_singleton i) (by simpa using hnew)
    · rw [hslots]
      intro j hj
      rw [State.states_of_slots (s := s) (by simp) j]
      rcases List.mem_append.mp hj with hj | hj
      · exact isolated j hj
      · rwa [List.mem_singleton.mp hj]
  obtain ⟨passed, capture, plan, settle, window, handover⟩ := h.phased he
  exact (hrides.goesOn hwhole (by simp [he])).sound ⟨passed, capture, plan, settle, window, handover⟩

/-- The episode back in BYPASS from RECHARGE or CAPTURE (R79). -/
theorem EpisodesSound.backToBypass {s : State} (h : EpisodesSound s) {e : EpisodeRecord}
    (he : s.episode.current = some e) (hi : e.phase ≠ .isolate) (hm : e.phase ≠ .magnetize)
    (hh : e.phase ≠ .handover) : EpisodesSound (s.setPhase .bypass) := by
  have hphased := h.phased he
  obtain ⟨capture, window, handover⟩ := hphased.waits hm hh
  refine ((h.rides he).setPhase .bypass).sound
    (EpisodeRecord.Waits.phased ⟨capture, window, handover⟩ (.inr (.inl rfl)) ?_)
  simpa [hi] using hphased.settle

/-- A re-isolation from MAGNETIZE or HANDOVER (R80, R81). -/
theorem EpisodesSound.reisolate {s : State} (h : EpisodesSound s) {e : EpisodeRecord}
    (he : s.episode.current = some e) : EpisodesSound s.reisolate := by
  have hrides := h.rides he
  have hphased := h.phased he
  rw [State.reisolate_eq he]
  refine State.Rides.enterIsolate (e := { e with
      reisolations := min 255 (e.reisolations + 1), capture := none })
    (hrides.with_record rfl rfl rfl rfl rfl rfl) ⟨rfl, ?_, ?_⟩
  · by_cases hp : e.phase = .handover
    · simp [State.reisolated, hp]
    · simpa [State.reisolated, hp] using hphased.window
  · by_cases hp : e.phase = .handover
    · simp [State.reisolated, hp]
    · simpa [State.reisolated, hp] using hphased.handover

theorem EpisodesSound.startFaulted {s : State} (h : EpisodesSound s) (i : Slot) :
    EpisodesSound (s.startFaulted i) := h.enterState _ (.inl (.inr (.inl rfl)))

theorem EpisodesSound.offerToEpisode {s : State} (h : EpisodesSound s) {e : EpisodeRecord}
    (he : s.episode.current = some e) {i : Slot} (hi : (s.slot i).state.Isolated) (hnew : i ∉ e.slots)
    (c : Code) (k : Nat) : EpisodesSound (s.offerToEpisode i c k) := by
  by_cases hmax : e.involved.length < s.config.fMax
  · have hlist := h.listSlot he hmax hi hnew c k
    have hcurrent : (s.listSlot i c k).episode.current =
        some { e with involved := e.involved ++ [newEntry i c k] } := by simp [he]
    rw [State.offerToEpisode_listed he hmax]
    dsimp only
    split
    · exact hlist
    · next hisolate =>
      split
      · exact hlist.startFaulted i
      · split
        · exact hlist.reisolate hcurrent
        · next hmoving =>
          rw [State.startFaulted_setPhase]
          exact (hlist.backToBypass hcurrent hisolate (fun hp => hmoving (.inl hp))
            (fun hp => hmoving (.inr hp))).startFaulted i
  · rw [State.offerToEpisode_full he (Nat.not_lt.mp hmax)]
    exact h.failEpisode _ _

/-- A candidate is not listed, so a RIDE of its code opens an episode or lists it anew (R64, R77). -/
theorem EpisodesSound.rideAction {s : State} (h : EpisodesSound s) {i : Slot}
    (hi : (s.slot i).state.candidate = true) (p : PendingFault) : EpisodesSound (s.rideAction i p) := by
  have hfree := SlotState.not_isolated_of_candidate hi
  have hfaulted : EpisodesSound (s.enterState i .faulted p.code) := h.enterState _ (.inr hfree)
  have hstate : ((s.enterState i .faulted p.code).slot i).state = .faulted := by
    rw [State.enterState_slot, if_pos rfl]; rfl
  unfold State.rideAction
  dsimp only
  split
  · exact hfaulted
  · exact hfaulted.startFaulted i
  · exact hfaulted.startFaulted i
  · next hd => exact hfaulted.openEpisode hd hstate _ _
  · cases he : s.episode.current with
    | none =>
      have hnone : (s.enterState i .faulted p.code).episode.current = none := by
        simp [State.enterState_episode, he]
      rwa [State.offerToEpisode_of_none hnone]
    | some e =>
      have hnew : i ∉ e.slots := fun hmem => hfree ((h.rides he).whole.isolated i hmem)
      refine hfaulted.offerToEpisode (by rw [State.enterState_episode, he]; rfl) (.inl hstate) ?_ _ _
      simpa [EpisodeRecord.slots, InvolvedEntry.follow_slot] using hnew

/-! ## From RECHARGE to HANDOVER -/

theorem EpisodesSound.rechargeCheck {s : State} (h : EpisodesSound s) : EpisodesSound s.rechargeCheck := by
  unfold State.rechargeCheck
  split
  · next hcheck =>
    obtain ⟨e, he, hphase⟩ := Option.map_eq_some_iff.mp hcheck.1
    have hphased := h.phased he
    obtain ⟨capture, window, handover⟩ := hphased.waits (by simp [hphase]) (by simp [hphase])
    refine ((h.rides he).setPhase .capture).sound (EpisodeRecord.Waits.phased ⟨capture, window, handover⟩
      (.inr (.inr ⟨.inr rfl, hphased.plan (by simp [hphase]) (by simp [hphase])⟩)) ?_)
    simpa [hphase] using hphased.settle
  · exact h

/-- The capture takes CAPTURE to MAGNETIZE, the window running on (R71). -/
theorem EpisodesSound.capture {s : State} (h : EpisodesSound s) {e : EpisodeRecord}
    (he : s.episode.current = some e) (hphase : e.phase = .capture) (r : SpeedResult) :
    EpisodesSound (s.capture r) := by
  have hrides := h.rides he
  obtain ⟨-, -, plan, settle, window, handover⟩ := h.phased he
  have hepisode : (s.capture r).episode = { s.episode with current := some { e with
      capture := some (captureFrom r.f s.config s.ratio), phase := .magnetize } } := by
    simp [State.capture, he]
  refine (hrides.with_record (t := s.capture r) (e' := { e with
      capture := some (captureFrom r.f s.config s.ratio), phase := .magnetize })
    (by rw [hepisode]) (hcounter := by rw [hepisode]) (hhistory := by rw [hepisode])).sound ?_
  rw [hepisode]
  exact
    { passed := by simp
      capture := by simp
      plan := fun _ _ => plan (by simp [hphase]) (by simp [hphase])
      settle := by simpa [hphase] using settle
      window := by simpa [hphase] using window
      handover := by simpa [hphase] using handover }

/-- The ramp's completion takes MAGNETIZE to HANDOVER, the handover timer in place of the window (R73). -/
theorem EpisodesSound.rampCompletion {s : State} (h : EpisodesSound s) : EpisodesSound s.rampCompletion := by
  unfold State.rampCompletion
  split
  · exact h
  · next e he =>
    split
    · next hdone =>
      split
      · exact h
      · next c hc =>
        have hrides := h.rides he
        obtain ⟨-, -, plan, settle, -, -⟩ := h.phased he
        refine State.Rides.sound (e := { e with phase := .handover })
          (hrides.with_record (by simp [he])) ?_
        exact
          { passed := by simp
            capture := by simp [hc]
            plan := fun _ _ => plan (by simp [hdone.1]) (by simp [hdone.1])
            settle := by simpa [hdone.1] using settle
            window := by simp
            handover := by simp }
    · exact h

/-! ## Timers -/

/-- The settle timer runs in ISOLATE alone, so its expiry is the entry to BYPASS (R66, R67). -/
theorem EpisodesSound.settleExpiry {s : State} (h : EpisodesSound s) : EpisodesSound s.settleExpiry := by
  unfold State.settleExpiry
  split
  · exact h
  · next t ht =>
    split
    · cases he : s.episode.current with
      | none => simp [(h.idle he).1] at ht
      | some e =>
        have hphased := h.phased he
        have hphase : e.phase = .isolate := by simpa [ht] using hphased.settle
        obtain ⟨capture, window, handover⟩ := hphased.waits (by simp [hphase]) (by simp [hphase])
        have hrides : State.Rides { s with episode := { s.episode with settle := none } } e :=
          (h.rides he).with_record he
        refine Eq.mpr (congrArg _ (if_pos ?_)) (hrides.enterBypass ⟨capture, window, handover⟩)
        simp [State.phase, he, hphase]
    · exact h

/-- The window timer runs in an episode alone, so its expiry fails one (R66, R85). -/
theorem EpisodesSound.windowExpiry {s : State} (h : EpisodesSound s) : EpisodesSound s.windowExpiry := by
  unfold State.windowExpiry
  split
  · exact h
  · next t ht =>
    split
    · cases he : s.episode.current with
      | none => simp [(h.idle he).2.1] at ht
      | some e =>
        refine State.Rides.failEpisode (e := e) ?_ _ _
        exact (h.rides he).with_record he
    · exact h

/-- The handover timer runs in an episode alone, so its expiry fails one (R66, R76). -/
theorem EpisodesSound.handoverExpiry {s : State} (h : EpisodesSound s) : EpisodesSound s.handoverExpiry := by
  unfold State.handoverExpiry
  split
  · exact h
  · next t ht =>
    split
    · cases he : s.episode.current with
      | none => simp [(h.idle he).2.2] at ht
      | some e =>
        refine State.Rides.failEpisode (e := e) ?_ _ _
        exact (h.rides he).with_record he
    · exact h

/-- A halt is taken outside an episode alone (R141). -/
theorem EpisodesSound.halt {s : State} (h : EpisodesSound s) (c : Code) : EpisodesSound (s.halt c) := by
  by_cases hd : s.drive.state = .riding
  · have hidle : s.halt c = s := by simp only [State.halt, hd]
    rwa [hidle]
  · refine h.of_idle (h.current_none hd) ?_ (hmax := by simpa using h.capacity)
    unfold State.halt
    split
    · simp
    · simp
    · exact hd

theorem EpisodesSound.supervisionExpiry {s : State} (h : EpisodesSound s) :
    EpisodesSound s.supervisionExpiry := by
  have hstopped : EpisodesSound { s with drive := { s.drive with supervision := none } } :=
    h.of_states fun _ hi => hi
  unfold State.supervisionExpiry
  split
  · exact h
  · split
    · dsimp only
      split
      · exact hstopped.halt _
      · exact hstopped
    · exact h

/-! ## The requests -/

/-- An accepted CONFIGURE leaves F_max at 1 or more (R169, R170). -/
theorem refuseConfigure_fMax {q : Items} {s : State} (h : refuseConfigure q s = none)
    (hmax : 1 ≤ s.config.fMax) : 1 ≤ (configAfter q s.config).fMax := by
  unfold refuseConfigure at h
  simp only [firstRefusal_eq_none, List.forall_mem_append, List.forall_mem_map, fieldOk_eq_true] at h
  obtain ⟨⟨-, hrange⟩, -⟩ := h
  cases hf : field q 13 with
  | none => simpa [configAfter, hf] using hmax
  | some v =>
    have hv := hrange 13 (by decide) v hf
    simp only [paramOk, between, Bool.and_eq_true, decide_eq_true_eq] at hv
    simpa [configAfter, hf] using hv.1

theorem EpisodesSound.acceptConfig {s : State} (h : EpisodesSound s) {q : Items}
    (hr : refuseConfigure q s = none) : EpisodesSound (s.acceptConfig q) := by
  have hd : s.drive.state ≠ .riding := by
    rcases refuseConfigure_eq_none hr with ⟨hd, -⟩ | ⟨hd | hd, -⟩ <;> simp [hd]
  have hmax := refuseConfigure_fMax hr h.capacity
  have hconfig : (s.acceptConfig q).config = configAfter q s.config := by
    unfold State.acceptConfig
    dsimp only
    split <;> simp
  refine h.of_idle (h.current_none hd) ?_ (hmax := by rwa [hconfig])
  unfold State.acceptConfig
  dsimp only
  split
  · simp [State.firstConfigure]
  · exact hd

theorem EpisodesSound.acceptStart {s : State} (h : EpisodesSound s) (hr : refuseStart s = none) :
    EpisodesSound s.acceptStart := by
  have hd : s.drive.state = .stopped := of_decide_eq_true (firstRefusal_eq_none.mp hr _ (.head _))
  refine h.of_idle (h.current_none (by simp [hd])) ?_ ?_ (by simpa using h.capacity)
  · simp [State.acceptStart]
  · simp [State.acceptStart, State.commit_episode]

theorem EpisodesSound.acceptStop {s : State} (h : EpisodesSound s) : EpisodesSound s.acceptStop := by
  unfold State.acceptStop
  split
  · next hd =>
    exact h.of_idle (h.current_none (by simp [hd])) (by simp) (hmax := by simpa using h.capacity)
  · exact h.failEpisode _ _
  · exact h

theorem EpisodesSound.acceptClearHalt {s : State} (h : EpisodesSound s) (hr : refuseClearHalt s = none) :
    EpisodesSound s.acceptClearHalt := by
  have hd : s.drive.state = .halted := of_decide_eq_true (firstRefusal_eq_none.mp hr _ (.head _))
  exact h.of_idle (h.current_none (by simp [hd])) (by simp [State.acceptClearHalt])
    (hmax := by simpa using h.capacity)

theorem EpisodesSound.acceptReference {s : State} (h : EpisodesSound s) {q : Items} (r : Reference)
    (hr : refuseReference q s = none) : EpisodesSound (s.acceptReference r) := by
  rcases refuseReference_eq_none hr with hd | ⟨hd, hphase⟩
  · have hnone := h.current_none (by simp [hd])
    simp only [State.acceptReference, hd]
    exact h.of_idle hnone (by simp) (hmax := h.capacity)
  · simp only [State.acceptReference, hd]
    exact h.closeRestored hphase r

theorem EpisodesSound.returnCell {s : State} (h : EpisodesSound s) {i : Slot}
    (hr : refuseReturnCell i s = none) : EpisodesSound (s.enterState i .returning 0) := by
  have hd : s.drive.state = .stopped := of_decide_eq_true (firstRefusal_eq_none.mp hr _ (.head _))
  have hnone := h.current_none (by simp [hd])
  refine h.of_idle hnone (by simp [hd]) ?_ (by simpa using h.capacity)
  rw [State.enterState_episode, hnone, Option.map_none, ← hnone]

/-! ## Every step -/

/-- Settles O12: the ride goes on, or the record closes, under each operation that reaches the episode. -/
theorem episodeRecordsStaySound : Obligations.EpisodeRecordsStaySound := by
  have hblocks : BlockInvariant EpisodesSound :=
    { reset := fun s =>
        { capacity := by simp [State.deviceReset, State.reset]
          riding := rfl
          counter := Nat.zero_le _
          opened := fun e he => by cases he
          idle := fun _ => ⟨rfl, rfl, rfl⟩
          history := Nat.zero_le _
          closed := by simp [State.deviceReset, State.reset] }
      alike := fun a h => h.alike a
      beat := fun h => h.beat
      halt := fun c h => h.halt c
      fail := fun k c h => h.failEpisode k c
      ride := fun p hi h => h.rideAction hi p
      stuck := fun i c h => h.enterState c (.inl (.inr (.inr (.inr rfl))))
      bypassed := fun i h => h.enterState 0 (.inl (.inr (.inr (.inl rfl))))
      returned := fun hi h => h.enterState 0 (.inr (by simp [hi, SlotState.Isolated]))
      checkBypass := fun h => h.checkBypass
      recharge := fun h => h.rechargeCheck
      capture := fun r he hphase h => h.capture he hphase r
      rampCompletion := fun h => h.rampCompletion
      settleExpiry := fun h => h.settleExpiry
      windowExpiry := fun h => h.windowExpiry
      handoverExpiry := fun h => h.handoverExpiry
      supervisionExpiry := fun h => h.supervisionExpiry
      configure := fun hr h => h.acceptConfig hr
      start := fun hr h => h.acceptStart hr
      stop := fun h => h.acceptStop
      clearHalt := fun hr h => h.acceptClearHalt hr
      reference := fun r hr h => h.acceptReference r hr
      bypassCell := fun _ h => h.enterState 0 (.inl (.inr (.inl rfl)))
      returnCell := fun hr h => h.returnCell hr }
  exact fun s t hs hstep => hblocks.step hs hstep

end Sys2Proof.Machine
end

section
/-! The plan table's order and its edits (R95, R97, R98). -/

namespace Sys2Proof.Machine

/-! ## The order of keys -/

section

variable {k l m : PlanKey}

/-- Keys stand in the order of a, then b, then c (R95). -/
theorem PlanKey.before_iff :
    k.before l = true ↔ k.a < l.a ∨ k.a = l.a ∧ (k.b < l.b ∨ k.b = l.b ∧ k.c < l.c) := by
  simp [PlanKey.before]

theorem PlanKey.before_trans (hkl : k.before l = true) (hlm : l.before m = true) : k.before m = true := by
  rw [PlanKey.before_iff] at *
  omega

theorem PlanKey.before_asymm (h : k.before l = true) : l.before k = false := by
  cases hlk : l.before k with
  | false => rfl
  | true => exact (PlanKey.before_trans h hlk).symm.trans k.before_irrefl

/-- Of two different keys one stands before the other. -/
theorem PlanKey.before_or_before : k.before l = true ∨ l.before k = true ↔ k ≠ l := by
  refine ⟨?_, fun h => ?_⟩
  · rintro (h | h) rfl <;> simp [PlanKey.before_irrefl] at h
  · by_contra hno
    rw [PlanKey.before_iff, PlanKey.before_iff] at hno
    obtain ⟨ha, hb, hc⟩ : k.a = l.a ∧ k.b = l.b ∧ k.c = l.c := by omega
    cases k
    cases l
    simp_all

end

/-! ## Tables in key order -/

/-- The entries stand in ascending order of key, no key twice (R95). -/
def Ascending (l : List PlanEntry) : Prop := l.Pairwise fun e f => e.key.before f.key = true

theorem PlansSound.ascending {s : State} (h : PlansSound s) : Ascending s.plans := h.2.2.1

section

variable {e : PlanEntry} {l : List PlanEntry}

theorem Ascending.nodup (h : Ascending l) : l.Nodup :=
  h.imp fun {e f} hef hsame => by
    rw [hsame, PlanKey.before_irrefl] at hef
    cases hef

/-- Of entries that all stand after a key, none stands before it. -/
theorem filter_of_all_after {k : PlanKey} (h : ∀ x ∈ l, k.before x.key = true) :
    l.filter (fun x => x.key.before k) = [] ∧ l.filter (fun x => k.before x.key) = l :=
  ⟨List.filter_eq_nil_iff.mpr fun x hx => by simp [PlanKey.before_asymm (h x hx)],
    List.filter_eq_self.mpr h⟩

/-- An inserted entry stands between the entries of lower key and those of higher key, and an entry of its
own key is gone (R97). -/
theorem insertEntry_eq (h : Ascending l) : insertEntry e l =
    l.filter (fun x => x.key.before e.key) ++ e :: l.filter (fun x => e.key.before x.key) := by
  induction l with
  | nil => rfl
  | cons x xs ih =>
    obtain ⟨hx, hxs⟩ := List.pairwise_cons.mp h
    rw [insertEntry]
    split
    · next hkey =>
      obtain ⟨hnone, hall⟩ := filter_of_all_after (l := xs) (k := e.key) (by rwa [hkey])
      simp [hnone, hall, ← hkey, PlanKey.before_irrefl]
    · next hkey =>
      split
      · next hbefore =>
        obtain ⟨hnone, hall⟩ := filter_of_all_after (l := x :: xs) (k := e.key)
          (List.forall_mem_cons.mpr ⟨hbefore, fun y hy => PlanKey.before_trans hbefore (hx y hy)⟩)
        rw [hnone, hall]
        rfl
      · next hbefore =>
        have hafter : x.key.before e.key = true :=
          (PlanKey.before_or_before.mpr (Ne.symm hkey)).resolve_right hbefore
        simp [ih hxs, hafter, PlanKey.before_asymm hafter]

/-- Insertion replaces the entry of its key and keeps every other (R97). -/
theorem mem_insertEntry (h : Ascending l) {x : PlanEntry} :
    x ∈ insertEntry e l ↔ x = e ∨ (x ∈ l ∧ x.key ≠ e.key) := by
  rw [insertEntry_eq h, ← PlanKey.before_or_before]
  simp only [List.mem_append, List.mem_cons, List.mem_filter]
  tauto

/-- Insertion keeps the order of keys (R95, R97). -/
theorem Ascending.insertEntry (h : Ascending l) : Ascending (insertEntry e l) := by
  rw [insertEntry_eq h]
  refine List.pairwise_append.mpr ⟨h.filter _, List.pairwise_cons.mpr ⟨fun y hy => ?_, h.filter _⟩, ?_⟩
  · exact (List.mem_filter.mp hy).2
  · intro x hx y hy
    have hxe : x.key.before e.key = true := (List.mem_filter.mp hx).2
    rcases List.mem_cons.mp hy with rfl | hy
    · exact hxe
    · exact PlanKey.before_trans hxe (List.mem_filter.mp hy).2

/-- The inserted entry's index is the number of entries of lower key (R97). -/
theorem getElem?_insertEntry (h : Ascending l) :
    (insertEntry e l)[(l.filter fun x => x.key.before e.key).length]? = some e := by
  rw [insertEntry_eq h, List.getElem?_append_right le_rfl, Nat.sub_self]
  rfl

/-- An entry in place of one of its key leaves their number as it was (R97). -/
theorem length_insertEntry_of_held (h : Ascending l) (hheld : ∃ f ∈ l, f.key = e.key) :
    (insertEntry e l).length = l.length := by
  induction l with
  | nil => simp at hheld
  | cons x xs ih =>
    obtain ⟨hx, hxs⟩ := List.pairwise_cons.mp h
    obtain ⟨f, hf, hkey⟩ := hheld
    rw [insertEntry]
    split
    · rfl
    · next hne =>
      have hf : f ∈ xs := (List.mem_cons.mp hf).resolve_left fun hfx => hne (by rw [← hkey, hfx])
      have hbefore : e.key.before x.key = false := PlanKey.before_asymm (hkey ▸ hx f hf)
      simp [hbefore, ih hxs ⟨f, hf, hkey⟩]

/-- An entry of a new key makes them one more (R97). -/
theorem length_insertEntry_of_not_held (hheld : ¬∃ f ∈ l, f.key = e.key) :
    (insertEntry e l).length = l.length + 1 := by
  induction l with
  | nil => rfl
  | cons x xs ih =>
    rw [List.exists_mem_cons_iff, not_or] at hheld
    obtain ⟨hx, hxs⟩ := hheld
    rw [insertEntry, if_neg (Ne.symm hx)]
    split
    · rfl
    · simp [ih hxs]

end

/-- Leaving out a key that stands in the table leaves out its entry alone (R98). -/
theorem PlansSound.filter_key_ne {s : State} (h : PlansSound s) {e : PlanEntry} (he : e ∈ s.plans) :
    s.plans.filter (fun x => decide (x.key ≠ e.key)) = s.plans.erase e := by
  rw [h.ascending.nodup.erase_eq_filter]
  refine List.filter_congr fun x hx => ?_
  have hsame : x.key = e.key ↔ x = e := ⟨h.eq_of_key hx he, congrArg _⟩
  simp [hsame, bne, beq_eq_decide]

end Sys2Proof.Machine
end

section
/-! PLAN_PUT, PLAN_DROP and PLAN_CLEAR (R96 to R99). -/

namespace Sys2Proof.Machine

/-! ## Checks by field -/

/-- A request's checks in order: the drive state, the presence of the fields 1 to `n`, the range of each of
them, and the table. -/
def refuseFields (may : Bool) (q : Items) (n : Nat) (ok : Nat → Nat → Bool) (table : Bool × RefusalCause) :
    Option RefusalCause :=
  if may then
    match firstAbsent q (List.range' 1 n) with
    | some id => some (.missing id)
    | none => firstRefusal
        ((List.range' 1 n).map (fun id => (ok id (fieldD q id), RefusalCause.range id)) ++ [table])
  else some .state

section

variable {may : Bool} {q : Items} {n id v : Nat} {ok : Nat → Nat → Bool} {table : Bool × RefusalCause}

theorem refuseFields_state (h : may = false) : refuseFields may q n ok table = some .state := by
  simp [refuseFields, h]

theorem refuseFields_missing (hmay : may = true) (h1 : 1 ≤ id) (hn : id ≤ n) (hid : field q id = none)
    (hlow : ∀ j, 1 ≤ j → j < id → field q j ≠ none) :
    refuseFields may q n ok table = some (.missing id) := by
  simp [refuseFields, hmay, firstAbsent_range'_eq_some h1 (by omega : id < 1 + n) hid hlow]

theorem refuseFields_whole (hmay : may = true) (hwhole : ∀ id, 1 ≤ id → id ≤ n → field q id ≠ none) :
    refuseFields may q n ok table = firstRefusal
      ((List.range' 1 n).map (fun id => (ok id (fieldD q id), RefusalCause.range id)) ++ [table]) := by
  have hpresent : firstAbsent q (List.range' 1 n) = none := firstAbsent_eq_none.mpr fun id hid => by
    obtain ⟨h1, hn⟩ := List.mem_range'_1.mp hid
    exact hwhole id h1 (by omega)
  simp [refuseFields, hmay, hpresent]

/-- The first field out of its range is refused RANGE. -/
theorem refuseFields_range (hmay : may = true) (hwhole : ∀ id, 1 ≤ id → id ≤ n → field q id ≠ none)
    (h1 : 1 ≤ id) (hn : id ≤ n) (hv : field q id = some v) (hbad : ok id v = false)
    (hlow : ∀ j u, j < id → field q j = some u → ok j u = true) :
    refuseFields may q n ok table = some (.range id) := by
  have hfind : (List.range' 1 n).find? (fun j => !ok j (fieldD q j)) = some id :=
    List.find?_range'_eq_some.mpr ⟨by simp [fieldD_of_some hv, hbad], by simp; omega, fun j h1j hj => by
      simpa using hlow j _ hj (field_of_ne_none (hwhole j h1j (by omega)))⟩
  rw [refuseFields_whole hmay hwhole, firstRefusal, List.find?_append, List.find?_map]
  simp [hfind]

/-- Where the fields pass, the table's check is left. -/
theorem refuseFields_table (hmay : may = true) (hwhole : ∀ id, 1 ≤ id → id ≤ n → field q id ≠ none)
    (hok : ∀ id v, field q id = some v → ok id v = true) :
    refuseFields may q n ok table = if table.1 = true then none else some table.2 := by
  have hranges : (List.range' 1 n).find? (fun j => !ok j (fieldD q j)) = none :=
    List.find?_eq_none.mpr fun j hj => by
      obtain ⟨h1, hn⟩ := List.mem_range'_1.mp hj
      simpa using hok j _ (field_of_ne_none (hwhole j h1 (by omega)))
  rw [refuseFields_whole hmay hwhole, firstRefusal, List.find?_append, List.find?_map]
  cases hlast : table.1 <;> simp [hranges, hlast]

/-- A request that passes has every field in its range, and passes the table's check. -/
theorem refuseFields_passed (h : refuseFields may q n ok table = none) :
    (∀ id, 1 ≤ id → id ≤ n → ok id (fieldD q id) = true) ∧ table.1 = true := by
  unfold refuseFields at h
  split at h
  · split at h
    · cases h
    · simp only [firstRefusal_eq_none, List.forall_mem_append, List.forall_mem_map,
        List.forall_mem_singleton] at h
      exact ⟨fun id h1 hn => h.1 id (List.mem_range'_1.mpr ⟨h1, by omega⟩), h.2⟩
  · cases h

end

/-- A request's field has an id that its kind carries (R177). -/
theorem fieldSize_of_field {k : RequestKind} {p : List Byte} {q : Items} {id v : Nat} (hp : carries k p q)
    (hv : field q id = some v) : (fieldSize k id).isSome = true := by
  obtain ⟨n, hn, -⟩ := parseItems_fit hp.1 _ (field_mem hv)
  exact Option.isSome_of_eq_some hn

/-! ## PLAN_PUT -/

/-- A field of a PLAN_PUT lies in its range, with N and the request's own counts (R94). -/
def planValueOk (n : Nat) (k : PlanKey) (id v : Nat) : Bool :=
  match id with
  | 1 | 2 | 3 => countOk n v
  | 4 | 5 => decide (v ≤ 3599)
  | 6 => decide (ratioFloor k.smallest n ≤ v) && decide (v ≤ 1000)
  | _ => true

/-- The ranges as R94 has them. -/
theorem planValueOk_eq_true {n id v : Nat} {k : PlanKey} : planValueOk n k id v = true ↔
    (1 ≤ id → id ≤ 3 → 1 ≤ v ∧ v ≤ n) ∧ (id = 4 ∨ id = 5 → v ≤ 3599) ∧
    (id = 6 → ratioFloor k.smallest n ≤ v ∧ v ≤ 1000) := by
  match id with
  | 0 => simp [planValueOk]
  | 1 | 2 | 3 => simp [planValueOk, countOk]
  | 4 | 5 => simp [planValueOk]
  | 6 => simp [planValueOk]
  | m + 7 => simp [planValueOk]

/-- PLAN_PUT's checks in order (R96). -/
theorem refusePlanPut_eq (q : Items) (s : State) : refusePlanPut q s =
    refuseFields (decide (s.drive.state = .stopped ∨ s.drive.state = .running ∨ s.drive.state = .halted)) q 6
      (planValueOk s.n (keyField q))
      (decide (s.plans.length < 32) || (s.planFor (keyField q)).isSome, .full) := by
  rw [refusePlanPut, refuseFields, ite_not]
  simp only [decide_eq_true_eq]
  rfl

theorem servePlanPut_refused {q : Items} {s : State} {c : RefusalCause} (h : refusePlanPut q s = some c) :
    serveKind .planPut q s = (s, .refused c) := by
  simp only [serveKind, servePlanPut, h, serveWith]

/-- A key is held where the look-up finds its entry. -/
theorem State.planFor_isSome {s : State} {k : PlanKey} :
    (s.planFor k).isSome = true ↔ ∃ f ∈ s.plans, f.key = k := by
  simp [State.planFor]

/-- What an accepted PLAN_PUT answers and leaves (R97). -/
theorem servePlanPut_accepted {q : Items} {s : State} (h : refusePlanPut q s = none) :
    serveKind .planPut q s = ({ s with plans := insertEntry (entryField q) s.plans },
      .ok (keyBytes (keyField q) ++
        [BitVec.ofNat 8 (s.plans.filter fun f => f.key.before (keyField q)).length,
         BitVec.ofNat 8 (if (s.planFor (keyField q)).isSome then 1 else 0),
         BitVec.ofNat 8 (insertEntry (entryField q) s.plans).length])) := by
  simp only [serveKind, servePlanPut, h, serveWith, byte1, List.append_assoc,
    List.cons_append, List.nil_append]

/-- Settles O47: each clause is one outcome of the chain of checks, and the entry is inserted in key order. -/
theorem planPutEditsTheTable : Obligations.PlanPutEditsTheTable := by
  intro tag p q s h hp hs refused may whole k e allowed passes held
  have refuses {c : RefusalCause} (hc : refusePlanPut q s = some c) : refused c :=
    request_refused (k := .planPut) h hp (servePlanPut_refused hc)
  have hcheck := refusePlanPut_eq q s
  have hallowed (id v : Nat) : planValueOk s.n k id v = true ↔ allowed id v := planValueOk_eq_true
  have hheld : (s.planFor k).isSome = true ↔ held := State.planFor_isSome
  have passed (hpass : passes) : refusePlanPut q s =
      if (decide (s.plans.length < 32) || (s.planFor k).isSome) = true then none else some .full := by
    obtain ⟨hmay, hwhole, hall⟩ := hpass
    rw [hcheck]
    exact refuseFields_table (decide_eq_true hmay) hwhole fun id v hv => (hallowed id v).mpr (hall id v hv)
  refine ⟨fun hmay => refuses ?_, fun id hmay h1 h6 hid hlow => refuses ?_,
    fun id v hmay hwhole hv hbad hlow => refuses ?_, fun hpass hfull hnot => refuses ?_,
    fun hpass hroom => ?_⟩
  · exact hcheck.trans (refuseFields_state (decide_eq_false hmay))
  · exact hcheck.trans (refuseFields_missing (decide_eq_true hmay) h1 h6 hid hlow)
  · obtain ⟨h1, h6⟩ : 1 ≤ id ∧ id ≤ 6 := by
      have hsize := fieldSize_of_field hp hv
      by_contra hno
      rw [fieldSize, if_neg (by omega), if_neg (by omega)] at hsize
      cases hsize
    exact hcheck.trans (refuseFields_range (decide_eq_true hmay) hwhole h1 h6 hv
      (Bool.eq_false_iff.mpr (mt (hallowed id v).mp hbad))
      fun j u hj hu => (hallowed j u).mpr (hlow j u hj hu))
  · rw [passed hpass, if_neg]
    simp [hfull, mt hheld.mp hnot]
  · have hnone : refusePlanPut q s = none := by
      rw [passed hpass, if_pos]
      simpa [hheld] using hroom
    refine ⟨_, _, _, request_accepted (k := .planPut) h hp (servePlanPut_accepted hnone),
      hs.ascending.insertEntry, fun x => mem_insertEntry hs.ascending, getElem?_insertEntry hs.ascending,
      fun hh => ⟨if_pos (hheld.mpr hh), length_insertEntry_of_held hs.ascending hh⟩,
      fun hh => ⟨if_neg (mt hheld.mp hh), length_insertEntry_of_not_held hh⟩⟩

/-! ## PLAN_DROP and PLAN_CLEAR -/

/-- PLAN_DROP's checks in order (R98). -/
theorem refusePlanDrop_eq (q : Items) (s : State) : refusePlanDrop q s =
    refuseFields (decide (s.drive.state ≠ .riding)) q 3 (fun _ v => countOk 9 v)
      ((s.planFor (keyField q)).isSome, .notFound) := by
  rw [refusePlanDrop, refuseFields, ← ite_not]
  simp only [decide_eq_true_eq]
  rfl

theorem servePlanDrop_refused {q : Items} {s : State} {c : RefusalCause} (h : refusePlanDrop q s = some c) :
    serveKind .planDrop q s = (s, .refused c) := by
  simp only [serveKind, servePlanDrop, h, serveWith]

/-- What an accepted PLAN_DROP answers and leaves (R98). -/
theorem servePlanDrop_accepted {q : Items} {s : State} {e : PlanEntry} (hs : PlansSound s) (he : e ∈ s.plans)
    (hkey : e.key = keyField q) (h : refusePlanDrop q s = none) :
    serveKind .planDrop q s = ({ s with plans := s.plans.erase e },
      .ok (entryBytes e ++ [BitVec.ofNat 8 (s.plans.erase e).length])) := by
  simp only [serveKind, servePlanDrop, h, serveWith, ← hkey, hs.filter_key_ne he, State.planFor_of_mem hs he]
  rfl

/-- Settles O48: each clause of PLAN_DROP is one outcome of the chain of checks. -/
theorem planDropAndClearRemoveEntries : Obligations.PlanDropAndClearRemoveEntries := by
  refine ⟨fun tag p q s h hp => ?_, fun tag s h => ⟨fun hd => ?_, fun hd => ?_⟩⟩
  · intro refused k whole inRange
    have refuses {c : RefusalCause} (hc : refusePlanDrop q s = some c) : refused c :=
      request_refused (k := .planDrop) h hp (servePlanDrop_refused hc)
    have hcheck := refusePlanDrop_eq q s
    have hcount (v : Nat) : countOk 9 v = true ↔ 1 ≤ v ∧ v ≤ 9 := by simp [countOk]
    have passed (hd : s.drive.state ≠ .riding) (hwhole : whole) (hrange : inRange) : refusePlanDrop q s =
        if (s.planFor k).isSome = true then none else some .notFound := by
      rw [hcheck]
      exact refuseFields_table (decide_eq_true hd) hwhole fun id v hv => (hcount v).mpr (hrange id v hv)
    refine ⟨fun hd => refuses ?_, fun id hd h1 h3 hid hlow => refuses ?_,
      fun id v hd hwhole hv hbad hlow => refuses ?_, fun hd hwhole hrange hmiss => refuses ?_,
      fun e he hd hwhole hrange hkey hs => ?_⟩
    · exact hcheck.trans (refuseFields_state (by simp [hd]))
    · exact hcheck.trans (refuseFields_missing (decide_eq_true hd) h1 h3 hid hlow)
    · obtain ⟨h1, h3⟩ : 1 ≤ id ∧ id ≤ 3 := by simpa [fieldSize] using fieldSize_of_field hp hv
      exact hcheck.trans (refuseFields_range (decide_eq_true hd) hwhole h1 h3 hv
        (Bool.eq_false_iff.mpr (mt (hcount v).mp (by omega)))
        fun j u hj hu => (hcount u).mpr (hlow j u hj hu))
    · rw [passed hd hwhole hrange, State.planFor_none hmiss]
      rfl
    · have hnone : refusePlanDrop q s = none := by
        rw [passed hd hwhole hrange, if_pos (State.planFor_isSome.mpr ⟨e, he, hkey⟩)]
      refine ⟨s.plans.erase e,
        request_accepted (k := .planDrop) h hp (servePlanDrop_accepted hs he hkey hnone),
        List.erase_sublist, ?_, fun x => ?_⟩
      · rw [List.length_erase_of_mem he, Nat.sub_add_cancel (List.length_pos_of_mem he)]
      · rw [hs.ascending.nodup.mem_erase_iff, and_comm]
  · refine request_refused (k := .planClear) h (carries_nil _) ?_
    simp only [serveKind, servePlanClear, if_pos hd, serveWith]
  · refine request_accepted (k := .planClear) h (carries_nil _) ?_
    simp only [serveKind, servePlanClear, if_neg hd, serveWith]
    rfl

end Sys2Proof.Machine
end

section
/-! N and the open episode with the drive state, and the plan table, through every step (R63, R94, R95, R129). -/

namespace Sys2Proof.Machine

/-! ## Changes of the drive state -/

/-- The mode stands where the drive state, the configuration and whether an episode is open stand. -/
theorem ModeSound.same {s t : State} (h : ModeSound s)
    (hsame : t.drive.state = s.drive.state ∧ t.config = s.config ∧
      t.episode.current.isSome = s.episode.current.isSome) : ModeSound t := by
  obtain ⟨hdrive, hconfig, hopen⟩ := hsame
  exact h.congr hdrive (by rw [hconfig]) hopen

/-- A change between two drive states with N in force, an episode open exactly in RIDING after it. -/
theorem ModeSound.moves {s t : State} (h : ModeSound s) (hs : s.drive.state ≠ .unconfigured)
    (ht : t.drive.state ≠ .unconfigured ∧ t.config = s.config ∧
      t.episode.current.isSome = decide (t.drive.state = .riding)) : ModeSound t := by
  obtain ⟨hdrive, hconfig, hopen⟩ := ht
  exact modeSound_of_configured hdrive (by rw [hconfig]; exact h.n_ne_none hs) hopen

/-- No episode is open outside RIDING. -/
theorem ModeSound.idle {s : State} (h : ModeSound s) (hd : s.drive.state ≠ .riding) :
    s.episode.current.isSome = false := by simpa [hd] using h.episode_open

theorem ModeSound.halt {s : State} (h : ModeSound s) (c : Code) : ModeSound (s.halt c) := by
  unfold State.halt
  split
  · next hd => exact h.moves (by simp [hd]) (by simpa using h.idle (by simp [hd]))
  · next hd => exact h.moves (by simp [hd]) (by simpa using h.idle (by simp [hd]))
  · exact h

theorem ModeSound.failEpisode {s : State} (h : ModeSound s) (k : FailureCause) (c : Code) :
    ModeSound (s.failEpisode k c) := by
  unfold State.failEpisode
  split
  · exact h
  · next he => exact h.moves (by simp [h.riding_of_current he]) (by simp)

theorem ModeSound.closeRestored {s : State} (h : ModeSound s) (r : Reference) :
    ModeSound (s.closeRestored r) := by
  unfold State.closeRestored
  split
  · exact h
  · next he => exact h.moves (by simp [h.riding_of_current he]) (by simp)

/-! ## The episode's phases -/

theorem ModeSound.setPhase {s : State} (h : ModeSound s) (p : EpisodePhase) : ModeSound (s.setPhase p) :=
  h.same (by simp)

theorem ModeSound.enterPlan {s : State} (h : ModeSound s) : ModeSound s.enterPlan := by
  unfold State.enterPlan
  dsimp only
  split
  · exact (h.setPhase .plan).failEpisode _ _
  · exact h.same (by simp [State.commit_episode])

theorem ModeSound.checkBypass {s : State} (h : ModeSound s) : ModeSound s.checkBypass := by
  unfold State.checkBypass
  split
  · exact h
  · split
    · exact h.enterPlan
    · exact h

theorem ModeSound.enterBypass {s : State} (h : ModeSound s) : ModeSound s.enterBypass := by
  have hphase : ModeSound { s.setPhase .bypass with
      episode := { (s.setPhase .bypass).episode with settle := none } } := h.same (by simp)
  unfold State.enterBypass
  exact ModeSound.checkBypass (hphase.same (by simp))

theorem ModeSound.enterIsolate {s : State} (h : ModeSound s) : ModeSound s.enterIsolate := by
  unfold State.enterIsolate
  dsimp only
  split
  · exact (h.setPhase .isolate).enterBypass
  · exact h.same (by simp)

theorem ModeSound.openEpisode {s : State} (h : ModeSound s) (hd : s.drive.state = .running) (i : Slot)
    (c : Code) (k : Nat) : ModeSound (s.openEpisode i c k) := by
  have hbegin : ModeSound (s.beginEpisode i c k) := h.moves (by simp [hd]) (by simp)
  exact ModeSound.enterIsolate (hbegin.same (by simp))

theorem ModeSound.reisolate {s : State} (h : ModeSound s) : ModeSound s.reisolate := by
  unfold State.reisolate
  dsimp only
  split <;> exact ModeSound.enterIsolate (h.same (by simp))

theorem ModeSound.offerToEpisode {s : State} (h : ModeSound s) (i : Slot) (c : Code) (k : Nat) :
    ModeSound (s.offerToEpisode i c k) := by
  have hlist : ModeSound (s.listSlot i c k) := h.same (by simp)
  have hstart : ModeSound ((s.listSlot i c k).startFaulted i) := hlist.same (by simp)
  unfold State.offerToEpisode
  split
  · exact h
  · next e _ =>
    split
    · exact h.failEpisode _ _
    · dsimp only
      cases e.phase with
      | isolate => exact hlist
      | bypass => exact hstart
      | plan | recharge | capture => exact hstart.setPhase _
      | magnetize | handover => exact hlist.reisolate

theorem ModeSound.rideAction {s : State} (h : ModeSound s) (i : Slot) (p : PendingFault) :
    ModeSound (s.rideAction i p) := by
  have hfaulted : ModeSound (s.enterState i .faulted p.code) := h.same (by simp)
  unfold State.rideAction
  dsimp only
  split
  · exact hfaulted
  · exact hfaulted.same (by simp)
  · exact hfaulted.same (by simp)
  · next hd => exact hfaulted.openEpisode hd ..
  · exact hfaulted.offerToEpisode ..

/-! ## The timers -/

theorem ModeSound.rampCompletion {s : State} (h : ModeSound s) : ModeSound s.rampCompletion := by
  refine h.same ⟨by simp, by simp, ?_⟩
  unfold State.rampCompletion
  (repeat' split) <;> simp

theorem ModeSound.settleExpiry {s : State} (h : ModeSound s) : ModeSound s.settleExpiry := by
  have hstopped : ModeSound { s with episode := { s.episode with settle := none } } := h.same (by simp)
  unfold State.settleExpiry
  split
  · exact h
  · split
    · dsimp only
      split
      · exact hstopped.enterBypass
      · exact hstopped
    · exact h

theorem ModeSound.windowExpiry {s : State} (h : ModeSound s) : ModeSound s.windowExpiry := by
  unfold State.windowExpiry
  split
  · exact h
  · split
    · exact ModeSound.failEpisode (h.same (by simp)) _ _
    · exact h

theorem ModeSound.handoverExpiry {s : State} (h : ModeSound s) : ModeSound s.handoverExpiry := by
  unfold State.handoverExpiry
  split
  · exact h
  · split
    · exact ModeSound.failEpisode (h.same (by simp)) _ _
    · exact h

theorem ModeSound.supervisionExpiry {s : State} (h : ModeSound s) : ModeSound s.supervisionExpiry := by
  have hstopped : ModeSound { s with drive := { s.drive with supervision := none } } := h.same (by simp)
  unfold State.supervisionExpiry
  split
  · exact h
  · split
    · dsimp only
      split
      · exact hstopped.halt _
      · exact hstopped
    · exact h

/-! ## The requests -/

/-- An accepted CONFIGURE outside UNCONFIGURED leaves N (R170). -/
theorem configAfter_n {q : Items} {s : State} (h : refuseConfigure q s = none)
    (hd : s.drive.state ≠ .unconfigured) : (configAfter q s.config).n = s.config.n := by
  obtain ⟨-, hsame⟩ := (refuseConfigure_eq_none h).resolve_left fun hn => hd hn.1
  cases hq : field q 1 with
  | none => simp [configAfter, hq]
  | some v => simp [configAfter, hq, hsame v hq]

theorem ModeSound.acceptConfig {s : State} (h : ModeSound s) {q : Items} (hr : refuseConfigure q s = none) :
    ModeSound (s.acceptConfig q) := by
  unfold State.acceptConfig
  dsimp only
  split
  · next hd =>
    obtain ⟨-, n, hn⟩ := (refuseConfigure_eq_none hr).resolve_right fun hn => by simp [hd] at hn
    exact modeSound_of_configured (by simp [State.firstConfigure]) (by simp [configAfter, hn])
      (by simpa [State.firstConfigure] using h.idle (by simp [hd]))
  · next hd => exact h.congr rfl (configAfter_n hr hd) rfl

theorem ModeSound.acceptStart {s : State} (h : ModeSound s) (hr : refuseStart s = none) :
    ModeSound s.acceptStart := by
  have hd : s.drive.state = .stopped := of_decide_eq_true (firstRefusal_eq_none.mp hr _ (.head _))
  have hidle := h.idle (by simp [hd])
  exact h.moves (by simp [hd]) (by simpa [State.acceptStart, State.commit_episode] using hidle)

theorem ModeSound.acceptStop {s : State} (h : ModeSound s) : ModeSound s.acceptStop := by
  unfold State.acceptStop
  split
  · next hd => exact h.moves (by simp [hd]) (by simpa using h.idle (by simp [hd]))
  · exact h.failEpisode _ _
  · exact h

theorem ModeSound.acceptClearHalt {s : State} (h : ModeSound s) (hr : refuseClearHalt s = none) :
    ModeSound s.acceptClearHalt := by
  have hd : s.drive.state = .halted := of_decide_eq_true (firstRefusal_eq_none.mp hr _ (.head _))
  have hidle := h.idle (by simp [hd])
  exact h.moves (by simp [hd]) (by simpa [State.acceptClearHalt] using hidle)

theorem ModeSound.acceptReference {s : State} (h : ModeSound s) (r : Reference) :
    ModeSound (s.acceptReference r) := by
  unfold State.acceptReference
  split
  · exact h.closeRestored r
  · exact h.same (by simp)

/-- Every block's operations keep N in force from the first CONFIGURE on, and an episode open exactly in
RIDING (R63, R129). -/
theorem modeSound_blocks : BlockInvariant ModeSound where
  reset _ := ⟨iff_of_true rfl rfl, rfl⟩
  alike a h := h.same ⟨by rw [a.drive], a.config, by rw [a.episode]⟩
  beat h := h.same (by simp)
  halt c h := h.halt c
  fail k c h := h.failEpisode k c
  ride p _ h := h.rideAction _ p
  stuck _ _ h := h.same (by simp)
  bypassed _ h := h.same (by simp)
  returned _ h := h.same (by simp)
  checkBypass h := h.checkBypass
  recharge h := h.same ⟨by simp, by simp, by unfold State.rechargeCheck; split <;> simp⟩
  capture _ _ _ h := h.same (by simp [State.capture])
  rampCompletion h := h.rampCompletion
  settleExpiry h := h.settleExpiry
  windowExpiry h := h.windowExpiry
  handoverExpiry h := h.handoverExpiry
  supervisionExpiry h := h.supervisionExpiry
  configure hr h := h.acceptConfig hr
  start hr h := h.acceptStart hr
  stop h := h.acceptStop
  clearHalt hr h := h.acceptClearHalt hr
  reference r _ h := h.acceptReference r
  bypassCell _ h := h.same (by simp)
  returnCell _ h := h.same (by simp)

/-! ## The plan table -/

theorem PlansSound.mode {s : State} (h : PlansSound s) : ModeSound s := h.1

theorem PlansSound.length_le {s : State} (h : PlansSound s) : s.plans.length ≤ 32 := h.2.1

theorem PlansSound.inRange {s : State} (h : PlansSound s) : ∀ e ∈ s.plans, e.InRange s.n := h.2.2.2

/-- The table is empty where no entry could be in range: before the first CONFIGURE (R94, R129). -/
theorem PlansSound.plans_nil {s : State} (h : PlansSound s) (hd : s.drive.state = .unconfigured) :
    s.plans = [] := by
  refine List.eq_nil_iff_forall_not_mem.mpr fun e he => ?_
  obtain ⟨⟨h1, hn⟩, -⟩ := h.inRange e he
  simp only [State.n, h.mode.unconfigured_iff.mp hd, Option.getD_none] at hn
  omega

/-- The condition on the plan table where the table stands. -/
theorem PlansSound.of_inRange {s t : State} (h : PlansSound s) (hmode : ModeSound t)
    (hplans : t.plans = s.plans) (hrange : ∀ e ∈ s.plans, e.InRange t.n) : PlansSound t := by
  unfold PlansSound
  rw [hplans]
  exact ⟨hmode, h.length_le, h.ascending, hrange⟩

/-- The same where the configuration stands too. -/
theorem PlansSound.of_mode {s t : State} (h : PlansSound s) (hmode : ModeSound t)
    (hsame : t.plans = s.plans ∧ t.config = s.config) : PlansSound t := by
  obtain ⟨hplans, hconfig⟩ := hsame
  refine h.of_inRange hmode hplans ?_
  rw [State.n, hconfig]
  exact h.inRange

/-- CONFIGURE brings another N in UNCONFIGURED alone, where the table is empty (R170). -/
theorem PlansSound.acceptConfig {s : State} (h : PlansSound s) {q : Items}
    (hr : refuseConfigure q s = none) : PlansSound (s.acceptConfig q) := by
  refine h.of_inRange (h.mode.acceptConfig hr) (by simp) ?_
  by_cases hd : s.drive.state = .unconfigured
  · simp [h.plans_nil hd]
  · have hsame : (s.acceptConfig q).n = s.n := by
      rw [State.acceptConfig, if_neg hd]
      exact congrArg (·.getD 0) (configAfter_n hr hd)
    rw [hsame]
    exact h.inRange

/-- The entry of an accepted PLAN_PUT is in range for N (R94, R96). -/
theorem entryField_inRange {q : Items} {s : State} (hr : refusePlanPut q s = none) :
    (entryField q).InRange s.n := by
  obtain ⟨hfields, -⟩ := refuseFields_passed ((refusePlanPut_eq q s).symm.trans hr)
  have count (id : Nat) (h1 : 1 ≤ id) (h3 : id ≤ 3) : 1 ≤ fieldD q id ∧ fieldD q id ≤ s.n := by
    obtain ⟨hcount, -, -⟩ := planValueOk_eq_true.mp (hfields id h1 (by omega))
    exact hcount h1 h3
  have lag (id : Nat) (hid : id = 4 ∨ id = 5) : fieldD q id ≤ 3599 := by
    obtain ⟨-, hlag, -⟩ := planValueOk_eq_true.mp (hfields id (by omega) (by omega))
    exact hlag hid
  obtain ⟨-, -, hratio⟩ := planValueOk_eq_true.mp (hfields 6 (by omega) (by omega))
  exact ⟨count 1 (by omega) (by omega), count 2 (by omega) (by omega), count 3 (by omega) (by omega),
    lag 4 (.inl rfl), lag 5 (.inr rfl), hratio rfl⟩

/-- An accepted PLAN_PUT finds its key held or room for one more entry (R96). -/
theorem length_insertEntry_le {q : Items} {s : State} (h : PlansSound s) (hr : refusePlanPut q s = none) :
    (insertEntry (entryField q) s.plans).length ≤ 32 := by
  obtain ⟨-, htable⟩ := refuseFields_passed ((refusePlanPut_eq q s).symm.trans hr)
  by_cases hheld : ∃ f ∈ s.plans, f.key = keyField q
  · exact (length_insertEntry_of_held h.ascending hheld).trans_le h.length_le
  · rw [length_insertEntry_of_not_held hheld]
    simpa [mt State.planFor_isSome.mp hheld] using htable

theorem PlansSound.servePlanPut {s : State} (h : PlansSound s) (q : Items) :
    PlansSound (servePlanPut q s).1 := by
  refine serveWith_keeps_accepted h fun hr =>
    ⟨h.mode, length_insertEntry_le h hr, h.ascending.insertEntry, fun x hx => ?_⟩
  rcases (mem_insertEntry h.ascending).mp hx with rfl | ⟨hx, -⟩
  · exact entryField_inRange (s := s) hr
  · exact h.inRange x hx

theorem PlansSound.servePlanDrop {s : State} (h : PlansSound s) (q : Items) :
    PlansSound (servePlanDrop q s).1 :=
  serveWith_keeps h ⟨h.mode, (List.length_filter_le ..).trans h.length_le, h.ascending.filter _,
    fun x hx => h.inRange x (List.mem_of_mem_filter hx)⟩

theorem PlansSound.servePlanClear {s : State} (h : PlansSound s) (q : Items) :
    PlansSound (servePlanClear q s).1 :=
  serveWith_keeps h ⟨h.mode, Nat.zero_le _, .nil, nofun⟩

/-- A request that neither configures nor edits the table leaves the table and the configuration. -/
theorem serveKind_plans {k : RequestKind} (hk : k ∉ [.configure, .planPut, .planDrop, .planClear])
    (q : Items) (s : State) :
    (serveKind k q s).1.plans = s.plans ∧ (serveKind k q s).1.config = s.config := by
  have stands {c : Option RefusalCause} {t : State} {b : List Byte}
      (ht : t.plans = s.plans ∧ t.config = s.config) :
      (serveWith c t b s).1.plans = s.plans ∧ (serveWith c t b s).1.config = s.config :=
    serveWith_keeps (P := fun t => t.plans = s.plans ∧ t.config = s.config) ⟨rfl, rfl⟩ ht
  cases k
  case configure | planPut | planDrop | planClear => simp at hk
  case routeSet | routeRead | extSet | readCell | bypassCell | returnCell =>
    simp only [serveKind, serveRouteSet, serveRouteRead, serveExtSet, serveReadCell, serveBypassCell,
      serveReturnCell]
    split <;> exact stands (by simp)
  all_goals exact stands (by simp)

theorem PlansSound.serveKind {s : State} (h : PlansSound s) (k : RequestKind) (q : Items) :
    PlansSound (serveKind k q s).1 := by
  have hmode := modeSound_blocks.serveKind h.mode k q
  by_cases hk : k ∈ [.configure, .planPut, .planDrop, .planClear]
  · simp only [List.mem_cons, List.not_mem_nil, or_false] at hk
    rcases hk with rfl | rfl | rfl | rfl
    · exact serveWith_keeps_accepted h fun hr => h.acceptConfig hr
    · exact h.servePlanPut q
    · exact h.servePlanDrop q
    · exact h.servePlanClear q
  · exact h.of_mode hmode (serveKind_plans hk q s)

/-! ## Every step -/

/-- Settles O11: only PLAN_PUT, PLAN_DROP and PLAN_CLEAR edit the table, and only the first CONFIGURE brings
another N, to an empty table. -/
theorem planTableStaysSound : Obligations.PlanTableStaysSound := by
  have hmode := modeSound_blocks
  intro s t hs hstep
  refine step_keeps (P := PlansSound) (fun s x h => h.of_mode (h.mode.same (by simp)) (by simp))
    (fun s l h => h.of_mode (h.mode.same (by simp)) (by simp)) (fun c s t hs hexec => ?_) hs hstep
  exact exec_keeps (P := PlansSound) (fun s l h => h.of_mode (h.mode.same (by simp)) (by simp))
    (fun s b h => h.of_mode (h.mode.same (by simp)) (by simp))
    (fun s => ⟨hmode.reset s, Nat.zero_le _, .nil, nofun⟩) (fun k q s h => h.serveKind k q)
    (fun s h => h.of_mode (hmode.beat h.mode) (by simp))
    (fun s h => h.of_mode h.mode.rampCompletion (by simp))
    (fun i b s h => h.of_mode (hmode.receiveChar h.mode i b) (by simp))
    (fun i s h => h.of_mode (hmode.answerMissing h.mode i) (by simp))
    (fun l mv s h => h.of_mode (hmode.extLineSample h.mode l mv) (by simp))
    (fun i b s h => h.of_mode (hmode.feedbackSample h.mode i b) (by simp))
    (fun x i s _ h => h.of_mode (hmode.pulseTimeout h.mode x i) (by simp))
    (fun s h => h.of_mode (hmode.gateCompletion h.mode) (by simp))
    (fun s h => h.of_mode h.mode.settleExpiry (by simp))
    (fun s h => h.of_mode h.mode.windowExpiry (by simp))
    (fun s h => h.of_mode h.mode.handoverExpiry (by simp))
    (fun s h => h.of_mode h.mode.supervisionExpiry (by simp))
    (fun a b s h => h.of_mode (hmode.alike (s.alike_encoderSample a b) h.mode) (by simp)) hs hexec

end Sys2Proof.Machine
end

section
/-! The applied magnitude within the committed plan's r, through every step (R117, R119, R122 to R124). -/

namespace Sys2Proof.Machine

/-! ## What the bound is read from -/

/-- What the open record holds of the restart magnitude: its phase and its capture. -/
def State.target (s : State) : Option (EpisodePhase × Option Capture) :=
  s.episode.current.map fun e => (e.phase, e.capture)

theorem State.target_of_current {s : State} {e : EpisodeRecord} (he : s.episode.current = some e) :
    s.target = some (e.phase, e.capture) := by simp [State.target, he]

theorem State.target_congr {s t : State} (h : t.episode.current = s.episode.current := by simp) :
    t.target = s.target := by rw [State.target, State.target, h]

/-- Two parts with one target both have an open record, with one phase and one capture, or none. -/
theorem State.current_of_target {s t : State} (h : t.target = s.target) {e : EpisodeRecord}
    (he : t.episode.current = some e) :
    ∃ e₀, s.episode.current = some e₀ ∧ e₀.phase = e.phase ∧ e₀.capture = e.capture := by
  rw [State.target_of_current he, eq_comm, State.target, Option.map_eq_some_iff] at h
  simpa using h

theorem State.isSome_of_target {s t : State} (h : t.target = s.target) :
    t.episode.current.isSome = s.episode.current.isSome := by
  simpa [State.target] using congrArg Option.isSome h

theorem State.phase_of_target {s t : State} (h : t.target = s.target) : t.phase = s.phase := by
  simpa [State.target, State.phase, Function.comp_def] using congrArg (Option.map Prod.fst) h

@[simp] theorem State.offer_target (b : NoticeBody) (s : State) : (s.offer b).target = s.target :=
  State.target_congr

@[simp] theorem State.enterState_target (i : Slot) (x : SlotState) (c : Code) (s : State) :
    (s.enterState i x c).target = s.target := by
  simp [State.target, State.enterState_episode, Function.comp_def]

@[simp] theorem State.startFaulted_target (i : Slot) (s : State) : (s.startFaulted i).target = s.target := by
  simp [State.startFaulted]

@[simp] theorem State.startAllFaulted_target (p : Slot → Bool) (s : State) :
    (s.startAllFaulted p).target = s.target :=
  State.eachSlot_reads State.target (fun i t => by split <;> simp) s

@[simp] theorem State.commit_target (s : State) : s.commit.target = s.target :=
  State.target_congr (by rw [State.commit_episode])

theorem State.ratio_congr {s t : State} (h : t.committed = s.committed) : t.ratio = s.ratio := by
  rw [State.ratio, State.ratio, h]

/-- The bound depends on the configuration, the committed plan, the drive state and its reference, the applied
magnitude, the ramp position and the target. -/
theorem MagnitudeSound.congr {s t : State} (h : MagnitudeSound s)
    (hconfig : t.config = s.config := by simp) (hcommitted : t.committed = s.committed := by simp)
    (hdrive : t.drive.state = s.drive.state ∧ t.drive.reference = s.drive.reference := by simp)
    (hmod : t.mod.mag = s.mod.mag ∧ t.mod.rampPos = s.mod.rampPos := by simp)
    (htarget : t.target = s.target := by simp) : MagnitudeSound t := by
  obtain ⟨hstate, href⟩ := hdrive
  obtain ⟨hmag, hpos⟩ := hmod
  have hratio := State.ratio_congr hcommitted
  constructor
  · rw [hstate, State.isSome_of_target htarget, h.riding]
  · rw [href, hstate]; exact h.running
  · rw [hmag, hratio]; exact h.applied
  · rw [href, hratio]; exact h.reference
  · intro e c he hc
    obtain ⟨e₀, he₀, hphase, hcapture⟩ := State.current_of_target htarget he
    rw [hratio, ← hphase]
    exact h.capture e₀ c he₀ (hcapture.trans hc)
  · intro e he hc
    obtain ⟨e₀, he₀, -, hcapture⟩ := State.current_of_target htarget he
    rw [hmag]
    exact h.blocked e₀ he₀ (hcapture.trans hc)
  · rw [State.phase_of_target htarget, hpos, hconfig]; exact h.ramp

theorem MagnitudeSound.alike {s t : State} (h : MagnitudeSound s) (a : s.Alike t) : MagnitudeSound t :=
  h.congr a.config a.committed (by simp [a.drive]) (by simp [a.mod]) (State.target_congr (by rw [a.episode]))

theorem MagnitudeSound.enterState {s : State} (h : MagnitudeSound s) (i : Slot) (x : SlotState) (c : Code) :
    MagnitudeSound (s.enterState i x c) := h.congr

/-- An episode that is open stands in RIDING. -/
theorem MagnitudeSound.riding_of_current {s : State} (h : MagnitudeSound s) {e : EpisodeRecord}
    (he : s.episode.current = some e) : s.drive.state = .riding := by simpa [he] using h.riding

/-- No reference is in force outside RUNNING (R136). -/
theorem MagnitudeSound.reference_none {s : State} (h : MagnitudeSound s) (hd : s.drive.state ≠ .running) :
    s.drive.reference = none := by
  simpa using mt h.running hd

theorem MagnitudeSound.current_none {s : State} (h : MagnitudeSound s) (hd : s.drive.state ≠ .riding) :
    s.episode.current = none := by simpa [hd] using h.riding

/-- A change of the drive state outside RUNNING and RIDING, where nothing but the applied magnitude stands. -/
theorem MagnitudeSound.rests {s t : State} (h : MagnitudeSound s)
    (hs : s.drive.state ≠ .running ∧ s.drive.state ≠ .riding) (ht : t.drive.state ≠ .riding)
    (hcommitted : t.committed = s.committed := by simp)
    (href : t.drive.reference = s.drive.reference := by simp)
    (hmag : t.mod.mag = s.mod.mag := by simp)
    (hepisode : t.episode = s.episode := by simp) : MagnitudeSound t := by
  have hnone := h.reference_none hs.1
  have hidle := h.current_none hs.2
  have hidle' : t.episode.current = none := by rw [hepisode, hidle]
  exact
    { riding := by simp [hidle', ht]
      running := by simp [href, hnone]
      applied := by rw [hmag, State.ratio_congr hcommitted]; exact h.applied
      reference := by simp [href, hnone]
      capture := by simp [hidle']
      blocked := by simp [hidle']
      ramp := by simp [State.phase, hidle'] }

/-! ## A blocked cascade -/

/-- Nothing stands that an applied magnitude is taken from, and the applied magnitude is 0, so that the bound
holds of every plan's r (R102, R124). -/
structure State.Blocked (s : State) : Prop where
  riding : s.episode.current.isSome = decide (s.drive.state = .riding)
  reference : s.drive.reference = none
  mag : s.mod.mag = 0
  capture : ∀ e, s.episode.current = some e → e.capture = none
  ramp : s.phase = some .magnetize → s.mod.rampPos ≤ rampBeats s.config

theorem State.Blocked.sound {s : State} (h : s.Blocked) : MagnitudeSound s where
  riding := h.riding
  running := by simp [h.reference]
  applied := by simp [h.mag]
  reference := by simp [h.reference]
  capture e c he hc := by simp [h.capture e he] at hc
  blocked _ _ _ := h.mag
  ramp := h.ramp

/-- In the phases before MAGNETIZE the cascade is blocked (R71, R124). -/
theorem MagnitudeSound.blocked_of_phase {s : State} (h : MagnitudeSound s) {e : EpisodeRecord}
    (he : s.episode.current = some e) (hm : e.phase ≠ .magnetize) (hh : e.phase ≠ .handover) :
    s.Blocked := by
  have hcapture : e.capture = none := by
    by_contra hc
    obtain ⟨c, hc⟩ := Option.ne_none_iff_exists'.mp hc
    obtain ⟨-, hphase⟩ := h.capture e c he hc
    exact hphase.elim hm hh
  exact
    { riding := h.riding
      reference := h.reference_none (by simp [h.riding_of_current he])
      mag := h.blocked e he hcapture
      capture := by simpa [he] using hcapture
      ramp := h.ramp }

/-- A blocked cascade stays so under any committed plan. -/
theorem State.Blocked.congr {s t : State} (h : s.Blocked) (hconfig : t.config = s.config := by simp)
    (hdrive : t.drive = s.drive := by simp) (hmod : t.mod = s.mod := by simp)
    (htarget : t.target = s.target := by simp) : t.Blocked := by
  constructor
  · rw [hdrive, State.isSome_of_target htarget, h.riding]
  · rw [hdrive, h.reference]
  · rw [hmod, h.mag]
  · intro e he
    obtain ⟨e₀, he₀, -, hcapture⟩ := State.current_of_target htarget he
    rw [← hcapture, h.capture e₀ he₀]
  · rw [State.phase_of_target htarget, hmod, hconfig]; exact h.ramp

/-- A change of the open record that captures nothing and does not enter MAGNETIZE. -/
theorem State.Blocked.mapEpisode {s : State} (h : s.Blocked) {f : EpisodeRecord → EpisodeRecord}
    (hf : ∀ e, (f e).capture = e.capture ∧ (f e).phase ≠ .magnetize) : (s.mapEpisode f).Blocked where
  riding := (Option.isSome_map ..).trans h.riding
  reference := h.reference
  mag := h.mag
  capture e he := by
    obtain ⟨e₀, he₀, rfl⟩ := Option.map_eq_some_iff.mp he
    rw [(hf e₀).1, h.capture e₀ he₀]
  ramp hphase := by
    obtain ⟨e, -, he⟩ := Option.map_eq_some_iff.mp ((Option.map_map ..).symm.trans hphase)
    exact absurd he (hf e).2

theorem State.Blocked.setPhase {s : State} (h : s.Blocked) {p : EpisodePhase} (hp : p ≠ .magnetize) :
    (s.setPhase p).Blocked := h.mapEpisode fun _ => ⟨rfl, hp⟩

/-- Outside RIDING with no reference in force and the applied magnitude 0. -/
theorem State.Blocked.of_idle {s : State} (hidle : s.episode.current = none) (hd : s.drive.state ≠ .riding)
    (href : s.drive.reference = none) (hmag : s.mod.mag = 0) : s.Blocked where
  riding := by simp [hidle, hd]
  reference := href
  mag := hmag
  capture := by simp [hidle]
  ramp := by simp [State.phase, hidle]

theorem State.deviceReset_blocked (s : State) : s.deviceReset.Blocked := by
  have hdrive : s.deviceReset.drive = {} := rfl
  exact .of_idle rfl (by simp [hdrive]) (by rw [hdrive]) rfl

/-! ## Halts and failures -/

/-- A failure drops what an applied magnitude is taken from (R89). -/
theorem MagnitudeSound.failEpisode {s : State} (h : MagnitudeSound s) (k : FailureCause) (c : Code) :
    MagnitudeSound (s.failEpisode k c) := by
  cases he : s.episode.current with
  | none => rwa [State.failEpisode_of_none he]
  | some e =>
    have href := h.reference_none (by simp [h.riding_of_current he])
    have hdrive := State.failEpisode_drive he k c
    obtain ⟨hmag, hclosed⟩ : (s.failEpisode k c).mod.mag = 0 ∧
        (s.failEpisode k c).episode.current = none := by
      rw [State.failEpisode_of_some he, State.startAllFaulted_episode]
      simp
    exact (State.Blocked.of_idle hclosed (by simp [hdrive]) (by rw [hdrive, ← href]) hmag).sound

/-- A halt drops the reference in force in RUNNING; in STOPPED none is (R136, R141). -/
theorem MagnitudeSound.halt {s : State} (h : MagnitudeSound s) (c : Code) : MagnitudeSound (s.halt c) := by
  unfold State.halt
  split
  · next hd =>
    have hidle := h.current_none (by simp [hd])
    exact (State.Blocked.of_idle (by simpa using hidle) (by simp) (by simp) (by simp)).sound
  · next hd => exact h.rests (by simp [hd]) (by simp)
  · exact h

/-! ## The episode's phases -/

theorem State.Blocked.enterPlan {s : State} (h : s.Blocked) : MagnitudeSound s.enterPlan := by
  have hplan : (s.setPhase .plan).Blocked := h.setPhase (by simp)
  unfold State.enterPlan
  dsimp only
  split
  · exact hplan.sound.failEpisode _ _
  · have hcommit : (s.setPhase .plan).commit.Blocked := hplan.congr
    refine State.Blocked.sound (State.Blocked.mapEpisode hcommit fun _ => ⟨rfl, ?_⟩)
    simp

/-- The commit of an episode changes the plan's r in BYPASS, where the cascade is blocked (R69, R102). -/
theorem MagnitudeSound.checkBypass {s : State} (h : MagnitudeSound s) : MagnitudeSound s.checkBypass := by
  unfold State.checkBypass
  split
  · exact h
  · next e he =>
    split
    · next hdone => exact (h.blocked_of_phase he (by simp [hdone.1]) (by simp [hdone.1])).enterPlan
    · exact h

theorem State.Blocked.enterBypass {s : State} (h : s.Blocked) : MagnitudeSound s.enterBypass := by
  have hphase : (s.setPhase .bypass).Blocked := h.setPhase (by simp)
  have hstopped : State.Blocked { s.setPhase .bypass with
      episode := { (s.setPhase .bypass).episode with settle := none } } :=
    hphase.congr (htarget := State.target_congr)
  unfold State.enterBypass
  exact (hstopped.congr (t := State.startAllFaulted _ _)).sound.checkBypass

theorem State.Blocked.enterIsolate {s : State} (h : s.Blocked) : MagnitudeSound s.enterIsolate := by
  have hphase : (s.setPhase .isolate).Blocked := h.setPhase (by simp)
  unfold State.enterIsolate
  dsimp only
  split
  · exact hphase.enterBypass
  · exact hphase.sound.congr (htarget := State.target_congr)

/-! ## Opening and second faults -/

/-- The opening drops the reference and sets the applied magnitude to 0 (R65). -/
theorem magnitudeSound_openEpisode (s : State) (i : Slot) (c : Code) (k : Nat) :
    MagnitudeSound (s.openEpisode i c k) := by
  have hbegin : (s.beginEpisode i c k).Blocked :=
    { riding := by simp
      reference := by simp
      mag := by simp
      capture := by simp [State.newEpisode]
      ramp := by simp [State.phase, State.newEpisode] }
  exact (hbegin.congr (t := State.offer _ _)).enterIsolate

/-- A re-isolation abandons the ramp or the hold, and its capture (R80, R81). -/
theorem MagnitudeSound.reisolate {s : State} (h : MagnitudeSound s) {e : EpisodeRecord}
    (he : s.episode.current = some e) : MagnitudeSound s.reisolate := by
  have hd := h.riding_of_current he
  have hreisolated : (s.reisolated e).Blocked :=
    { riding := by simp [State.reisolated, hd]
      reference := h.reference_none (by simp [hd])
      mag := rfl
      capture := by simp [State.reisolated]
      ramp := by simp [State.reisolated] }
  rw [State.reisolate_eq he]
  exact hreisolated.enterIsolate

theorem MagnitudeSound.offerToEpisode {s : State} (h : MagnitudeSound s) (i : Slot) (c : Code) (k : Nat) :
    MagnitudeSound (s.offerToEpisode i c k) := by
  cases he : s.episode.current with
  | none => rwa [State.offerToEpisode_of_none he]
  | some e =>
    by_cases hmax : e.involved.length < s.config.fMax
    · have hlisted : (s.listSlot i c k).episode.current =
          some { e with involved := e.involved ++ [newEntry i c k] } := by rw [State.listSlot_of_some he]
      have hlist : MagnitudeSound (s.listSlot i c k) :=
        h.congr (htarget := by rw [State.target_of_current hlisted, State.target_of_current he])
      rw [State.offerToEpisode_listed he hmax]
      dsimp only
      split
      · exact hlist
      · split
        · exact hlist.enterState ..
        · split
          · exact hlist.reisolate hlisted
          · next hphase =>
            obtain ⟨hm, hh⟩ := not_or.mp hphase
            have hblocked := hlist.blocked_of_phase hlisted hm hh
            exact ((hblocked.congr (t := State.startFaulted _ _)).setPhase (by simp)).sound
    · rw [State.offerToEpisode_full he (Nat.not_lt.mp hmax)]
      exact h.failEpisode _ _

theorem MagnitudeSound.rideAction {s : State} (h : MagnitudeSound s) (i : Slot) (p : PendingFault) :
    MagnitudeSound (s.rideAction i p) := by
  have hfaulted : MagnitudeSound (s.enterState i .faulted p.code) := h.enterState ..
  unfold State.rideAction
  dsimp only
  split
  · exact hfaulted
  · exact hfaulted.enterState ..
  · exact hfaulted.enterState ..
  · exact magnitudeSound_openEpisode ..
  · exact hfaulted.offerToEpisode ..

/-! ## Fault intake

A `BlockInvariant` is kept by the acceptance of any reference. The bound is kept by that of a clamped one alone,
so it is carried through each block's operations here. -/

theorem MagnitudeSound.setFacts {s : State} (h : MagnitudeSound s) (src : FaultSource) (f : FaultFacts) :
    MagnitudeSound (s.setFacts src f) := h.alike (s.alike_setFacts src f)

theorem MagnitudeSound.haltAction {s : State} (h : MagnitudeSound s) (c : Code) :
    MagnitudeSound (s.haltAction c) := by
  unfold State.haltAction
  split
  · exact h.failEpisode _ _
  · exact h.halt _
  · exact h.halt _
  · exact h

theorem MagnitudeSound.act {s : State} (h : MagnitudeSound s) (src : FaultSource) (p : PendingFault) :
    MagnitudeSound (s.act src p) := by
  unfold State.act
  split
  · exact h
  · unfold State.noteAction
    dsimp only
    split
    · exact h.setFacts ..
    · exact (h.setFacts ..).alike (State.alike_offer ..)
  · exact h.rideAction ..
  · exact h.haltAction _
  · exact h.haltAction _

/-- What a presentation comes to: the source's facts written, and at most one action taken (R50, R51, R54). -/
theorem State.present_cases (src : FaultSource) (x : Presentation) (s : State) :
    ∃ f, s.present src x = s.setFacts src f ∨ ∃ p, s.present src x = (s.setFacts src f).act src p := by
  have settle (p : PendingFault) : ∃ f, s.settlePending src p = s.setFacts src f ∨
      ∃ p', s.settlePending src p = (s.setFacts src f).act src p' := by
    unfold State.settlePending
    split
    · exact ⟨_, .inr ⟨p, rfl⟩⟩
    · exact ⟨_, .inl rfl⟩
  have sight (c : Code) : ∃ f, s.firstSight src c = s.setFacts src f ∨
      ∃ p, s.firstSight src c = (s.setFacts src f).act src p := by
    unfold State.firstSight
    dsimp only
    split
    · exact ⟨_, .inl rfl⟩
    · exact settle _
  unfold State.present
  dsimp only
  split
  · exact ⟨_, .inl rfl⟩
  · exact ⟨_, .inl rfl⟩
  · split
    · split
      · exact settle _
      · exact sight _
    · exact sight _

theorem MagnitudeSound.present {s : State} (h : MagnitudeSound s) (src : FaultSource) (x : Presentation) :
    MagnitudeSound (s.present src x) := by
  obtain ⟨f, hfacts | ⟨p, hact⟩⟩ := s.present_cases src x
  · rw [hfacts]; exact h.setFacts ..
  · rw [hact]; exact (h.setFacts ..).act ..

/-- An enabled line's sample is a presentation of the line (R43). -/
theorem MagnitudeSound.extLineSample {s : State} (h : MagnitudeSound s) (l : ExtLine) (mv : Nat) :
    MagnitudeSound (s.extLineSample l mv) := by
  unfold State.extLineSample
  split
  · exact h
  · exact MagnitudeSound.present (h.congr (htarget := State.target_congr)) ..

/-! ## Contactors -/

theorem MagnitudeSound.stick {s : State} (h : MagnitudeSound s) (i : Slot) (c : Code) :
    MagnitudeSound (s.stick i c) := by
  have hstuck := h.enterState i .stuck c
  unfold State.stick State.presentBypassCode
  split
  · split
    · exact hstuck
    · exact hstuck.halt _
  · exact hstuck.failEpisode _ _
  · exact hstuck

theorem MagnitudeSound.setSlot {s : State} (h : MagnitudeSound s) (i : Slot) (r : SlotRecord) :
    MagnitudeSound (s.setSlot i r) := h.congr (htarget := State.target_congr)

theorem MagnitudeSound.completeBypass {s : State} (h : MagnitudeSound s) (i : Slot) (n : Nat) :
    MagnitudeSound (s.completeBypass i n) := by
  have hentered (r : SlotRecord) : MagnitudeSound ((s.setSlot i r).enterState i .bypassed 0) :=
    (h.setSlot i r).enterState ..
  unfold State.completeBypass
  dsimp only
  split
  · exact (hentered _).checkBypass
  · exact hentered _

theorem MagnitudeSound.feedbackEffect {s : State} (h : MagnitudeSound s) (i : Slot) (before : Contactor) :
    MagnitudeSound (s.feedbackEffect i before) := by
  have anomaly (b : Bool) (c : Code) : MagnitudeSound (if b = true then s.stick i c else s) := by
    split
    · exact h.stick i c
    · exact h
  unfold State.feedbackEffect
  dsimp only
  cases (s.slot i).state with
  | absent | stuck => exact h
  | active | parked | faulted | bypassed => exact anomaly _ _
  | bypassing =>
    dsimp only
    split
    · exact h
    · split
      · exact h.completeBypass i _
      · exact h.setSlot ..
  | returning =>
    dsimp only
    split
    · exact h
    · split
      · exact (h.setSlot ..).enterState ..
      · exact h.setSlot ..

theorem MagnitudeSound.feedbackSample {s : State} (h : MagnitudeSound s) (i : Slot) (high : Bool) :
    MagnitudeSound (s.feedbackSample i high) := by
  have hreach : MagnitudeSound (s.reach (s.slot i).contactor.sampledAt 100) :=
    h.congr (htarget := State.target_congr)
  exact (hreach.setSlot i _).feedbackEffect i _

theorem MagnitudeSound.pulseTimeout {s : State} (h : MagnitudeSound s) (x : SlotState) (i : Slot) :
    MagnitudeSound (s.pulseTimeout x i) := by
  unfold State.pulseTimeout
  split
  · exact h
  · split
    · exact h.stick i _
    · exact h

/-! ## Cell links -/

theorem MagnitudeSound.presentCell {s : State} (h : MagnitudeSound s) (i : Slot) (x : Presentation) :
    MagnitudeSound (s.presentCell i x) := by
  unfold State.presentCell
  split
  · exact h.present ..
  · exact h

/-- RECHARGE goes over to CAPTURE with nothing captured yet (R70). -/
theorem MagnitudeSound.rechargeCheck {s : State} (h : MagnitudeSound s) : MagnitudeSound s.rechargeCheck := by
  unfold State.rechargeCheck
  split
  · next hr =>
    obtain ⟨e, he, hphase⟩ := Option.map_eq_some_iff.mp hr.1
    exact ((h.blocked_of_phase he (by simp [hphase]) (by simp [hphase])).setPhase (by simp)).sound
  · exact h

theorem MagnitudeSound.receiveChar {s : State} (h : MagnitudeSound s) (i : Slot) (b : Byte) :
    MagnitudeSound (s.receiveChar i b) := by
  unfold State.receiveChar State.judgeGroup
  dsimp only
  split
  · split
    · exact h.setSlot ..
    · split
      · exact h.setSlot ..
      · exact ((h.setSlot ..).presentCell ..).rechargeCheck
  · exact h

theorem MagnitudeSound.answerMissing {s : State} (h : MagnitudeSound s) (i : Slot) :
    MagnitudeSound (s.answerMissing i) := by
  unfold State.answerMissing
  dsimp only
  split
  · exact (h.setSlot ..).presentCell ..
  · exact h

/-! ## The speed unit -/

/-- The captured target is clamped to the committed plan's r, and the ramp begins at 0 (R117, R119). -/
theorem MagnitudeSound.captured {s : State} (h : MagnitudeSound s) {e : EpisodeRecord}
    (he : s.episode.current = some e) (hphase : e.phase = .capture) (r : SpeedResult) :
    MagnitudeSound (s.capture r) := by
  have hblocked := h.blocked_of_phase he (by simp [hphase]) (by simp [hphase])
  exact
    { riding := (Option.isSome_map ..).trans h.riding
      running := by simp [hblocked.reference]
      applied := by simp [State.capture, hblocked.mag]
      reference := by simp [hblocked.reference]
      capture := by
        intro e' c he' hc
        obtain ⟨e₀, -, rfl⟩ := Option.map_eq_some_iff.mp he'
        cases hc
        exact ⟨Nat.min_le_right .., .inl rfl⟩
      blocked := fun _ _ _ => hblocked.mag
      ramp := by simp [State.capture] }

theorem MagnitudeSound.guardHalt {s : State} (h : MagnitudeSound s) (r : SpeedResult) :
    MagnitudeSound (s.guardHalt r) := by
  unfold State.guardHalt
  split
  · exact h.halt _
  · split
    · exact h
    · exact h.halt _

theorem MagnitudeSound.guardRide {s : State} (h : MagnitudeSound s) {e : EpisodeRecord}
    (he : s.episode.current = some e) (r : SpeedResult) : MagnitudeSound (s.guardRide e r) := by
  unfold State.guardRide
  split
  · exact h.failEpisode _ _
  · split
    · exact h.failEpisode _ _
    · split
      · exact h.failEpisode _ _
      · split
        · next hphase => exact h.captured he hphase r
        · exact h

theorem MagnitudeSound.judgeSpeed {s : State} (h : MagnitudeSound s) (before r : SpeedResult) :
    MagnitudeSound (s.judgeSpeed before r) := by
  unfold State.judgeSpeed
  split
  · exact h
  · exact h.guardHalt r
  · exact h.guardHalt r
  · unfold State.guardNote
    split
    · exact h.alike (State.alike_offer ..)
    · exact h
  · split
    · exact h
    · next he => exact h.guardRide he r

theorem MagnitudeSound.gateCompletion {s : State} (h : MagnitudeSound s) :
    MagnitudeSound s.gateCompletion := by
  unfold State.gateCompletion
  split
  · exact h
  · split
    · exact MagnitudeSound.judgeSpeed (h.congr (htarget := State.target_congr)) ..
    · exact h

/-! ## The beat -/

/-- A ramp beat's magnitude is at most the captured target (R119). -/
theorem rampMagnitude_le {ut j n : Nat} (h : j ≤ n) : rampMagnitude ut j n ≤ ut :=
  Nat.div_le_of_le_mul (by rw [Nat.mul_comm n]; exact Nat.mul_le_mul_left ut h)

/-- The magnitude that a beat applies is at most the committed plan's r, and 0 with nothing captured (R119,
R123, R124). -/
theorem MagnitudeSound.applied_le {s : State} (h : MagnitudeSound s) : s.applied.1 ≤ s.ratio ∧
    ∀ e, s.episode.current = some e → e.capture = none → s.applied.1 = 0 := by
  unfold State.applied
  split
  · next hd =>
    refine ⟨?_, fun e he => by simp [h.riding_of_current he] at hd⟩
    split
    · exact Nat.zero_le _
    · next r hr => exact h.reference r hr
  · split
    · exact ⟨Nat.zero_le _, fun _ _ _ => rfl⟩
    · next e he =>
      split
      · next c hphase hc =>
        have hramp := h.ramp (by simp [State.phase, he, hphase])
        refine ⟨(rampMagnitude_le hramp).trans (h.capture e c he hc).1, fun e' he' hnone => ?_⟩
        cases he.symm.trans he'
        cases hc.symm.trans hnone
      · next c hphase hc =>
        refine ⟨(h.capture e c he hc).1, fun e' he' hnone => ?_⟩
        cases he.symm.trans he'
        cases hc.symm.trans hnone
      · exact ⟨Nat.zero_le _, fun _ _ _ => rfl⟩
  · exact ⟨Nat.zero_le _, fun _ _ _ => rfl⟩

/-- What a beat leaves of the magnitude and the ramp position (R119, R123). -/
theorem State.beat_mod (s : State) : s.beat.mod.mag = s.applied.1 ∧ s.beat.mod.rampPos =
    if s.ramping = true ∧ s.mod.rampPos < 10 * s.config.ramp then s.mod.rampPos + 1 else s.mod.rampPos := by
  have happlied : (s.reach s.beatAt 100).applied = s.applied := by simp [State.applied]
  rw [State.beat, State.advanceRamp_eq, State.ramping_congr (s := s)] <;> simp [happlied]

theorem MagnitudeSound.beat {s : State} (h : MagnitudeSound s) : MagnitudeSound s.beat := by
  obtain ⟨hmag, hpos⟩ := s.beat_mod
  obtain ⟨hle, hzero⟩ := h.applied_le
  have hratio : s.beat.ratio = s.ratio := State.ratio_congr (by simp)
  exact
    { riding := by simpa using h.riding
      running := by simpa using h.running
      applied := by rwa [hmag, hratio]
      reference := by simpa [hratio] using h.reference
      capture := by simpa [hratio] using h.capture
      blocked := by simpa [hmag] using hzero
      ramp := fun hphase => by
        have hramp := h.ramp (by simpa [State.phase] using hphase)
        rw [hpos, s.beat_frame.1]
        split
        · next hstep => exact hstep.2
        · exact hramp }

/-! ## The timers -/

/-- HANDOVER holds what MAGNETIZE has captured (R73). -/
theorem MagnitudeSound.enterHandover {s : State} (h : MagnitudeSound s) :
    MagnitudeSound (s.setPhase .handover) where
  riding := (Option.isSome_map ..).trans h.riding
  running := h.running
  applied := h.applied
  reference := h.reference
  capture e c he hc := by
    obtain ⟨e₀, he₀, rfl⟩ := Option.map_eq_some_iff.mp he
    exact ⟨(h.capture e₀ c he₀ hc).1, .inr rfl⟩
  blocked e he hc := by
    obtain ⟨e₀, he₀, rfl⟩ := Option.map_eq_some_iff.mp he
    exact h.blocked e₀ he₀ hc
  ramp hphase := by simp [State.phase, State.setPhase, State.mapEpisode] at hphase

theorem MagnitudeSound.rampCompletion {s : State} (h : MagnitudeSound s) :
    MagnitudeSound s.rampCompletion := by
  unfold State.rampCompletion
  split
  · exact h
  · split
    · split
      · exact h
      · exact MagnitudeSound.enterHandover (h.congr (htarget := State.target_congr))
    · exact h

theorem MagnitudeSound.settleExpiry {s : State} (h : MagnitudeSound s) : MagnitudeSound s.settleExpiry := by
  have hstopped : MagnitudeSound { s with episode := { s.episode with settle := none } } :=
    h.congr (htarget := State.target_congr)
  unfold State.settleExpiry
  split
  · exact h
  · split
    · dsimp only
      split
      · next hphase =>
        obtain ⟨e, he, hphase⟩ := Option.map_eq_some_iff.mp hphase
        exact (hstopped.blocked_of_phase he (by simp [hphase]) (by simp [hphase])).enterBypass
      · exact hstopped
    · exact h

theorem MagnitudeSound.windowExpiry {s : State} (h : MagnitudeSound s) : MagnitudeSound s.windowExpiry := by
  unfold State.windowExpiry
  split
  · exact h
  · split
    · exact MagnitudeSound.failEpisode (h.congr (htarget := State.target_congr)) _ _
    · exact h

theorem MagnitudeSound.handoverExpiry {s : State} (h : MagnitudeSound s) :
    MagnitudeSound s.handoverExpiry := by
  unfold State.handoverExpiry
  split
  · exact h
  · split
    · exact MagnitudeSound.failEpisode (h.congr (htarget := State.target_congr)) _ _
    · exact h

theorem MagnitudeSound.supervisionExpiry {s : State} (h : MagnitudeSound s) :
    MagnitudeSound s.supervisionExpiry := by
  have hstopped : MagnitudeSound { s with drive := { s.drive with supervision := none } } :=
    h.congr (htarget := State.target_congr)
  unfold State.supervisionExpiry
  split
  · exact h
  · split
    · dsimp only
      split
      · exact hstopped.halt _
      · exact hstopped
    · exact h

/-! ## The requests -/

/-- CONFIGURE is accepted with no reference in force and no episode open (R170). -/
theorem MagnitudeSound.acceptConfig {s : State} (h : MagnitudeSound s) {q : Items}
    (hr : refuseConfigure q s = none) : MagnitudeSound (s.acceptConfig q) := by
  have hd : s.drive.state ≠ .running ∧ s.drive.state ≠ .riding := by
    rcases refuseConfigure_eq_none hr with ⟨hd, -⟩ | ⟨hd | hd, -⟩ <;> simp [hd]
  unfold State.acceptConfig
  dsimp only
  split
  · exact h.rests hd (by simp [State.firstConfigure]) (href := by simp [State.firstConfigure])
  · exact h.rests hd hd.2

/-- START commits a plan, with no reference in force and the applied magnitude 0 (R133). -/
theorem MagnitudeSound.acceptStart {s : State} (h : MagnitudeSound s) (hr : refuseStart s = none) :
    MagnitudeSound s.acceptStart := by
  have hd : s.drive.state = .stopped := of_decide_eq_true (firstRefusal_eq_none.mp hr _ (.head _))
  have hidle : s.acceptStart.episode.current = none := by
    simp [State.acceptStart, State.commit_episode, h.current_none, hd]
  refine (State.Blocked.of_idle hidle ?_ ?_ ?_).sound <;> simp [State.acceptStart]

/-- STOP drops the reference in force, or fails the open episode (R88, R135). -/
theorem MagnitudeSound.acceptStop {s : State} (h : MagnitudeSound s) : MagnitudeSound s.acceptStop := by
  unfold State.acceptStop
  split
  · next hd =>
    have hidle := h.current_none (by simp [hd])
    exact (State.Blocked.of_idle (by simpa using hidle) (by simp) (by simp) (by simp)).sound
  · exact h.failEpisode _ _
  · exact h

theorem MagnitudeSound.acceptClearHalt {s : State} (h : MagnitudeSound s) (hr : refuseClearHalt s = none) :
    MagnitudeSound s.acceptClearHalt := by
  have hd : s.drive.state = .halted := of_decide_eq_true (firstRefusal_eq_none.mp hr _ (.head _))
  exact h.rests (by simp [hd]) (by simp [State.acceptClearHalt]) (href := by simp [State.acceptClearHalt])

/-- A reference in force in RUNNING, at a magnitude that is at most the committed plan's r. -/
theorem magnitudeSound_of_reference {t : State} {r : Reference} (hd : t.drive.state = .running)
    (hidle : t.episode.current = none) (href : t.drive.reference = some r) (hmag : t.mod.mag = r.mag)
    (hle : r.mag ≤ t.ratio) : MagnitudeSound t where
  riding := by simp [hidle, hd]
  running _ := hd
  applied := by rwa [hmag]
  reference := by simpa [href] using hle
  capture := by simp [hidle]
  blocked := by simp [hidle]
  ramp := by simp [State.phase, hidle]

/-- An accepted REFERENCE is put in force in RUNNING, from HANDOVER by the RESTORED close (R75, R137, R138). -/
theorem MagnitudeSound.acceptReference {s : State} (h : MagnitudeSound s) {q : Items}
    (hr : refuseReference q s = none) {r : Reference} (hle : r.mag ≤ s.ratio) :
    MagnitudeSound (s.acceptReference r) := by
  have hratio : (s.acceptReference r).ratio = s.ratio := State.ratio_congr (by simp)
  rw [← hratio] at hle
  rcases refuseReference_eq_none hr with hd | ⟨hd, hphase⟩
  · have hidle := h.current_none (by simp [hd])
    refine magnitudeSound_of_reference ?_ ?_ ?_ ?_ hle <;> simp [State.acceptReference, hd, hidle]
  · obtain ⟨e, he, -⟩ := Option.map_eq_some_iff.mp hphase
    have hclose : s.acceptReference r = s.closeRestored r := by simp only [State.acceptReference, hd]
    have hepisode : (s.closeRestored r).episode.current = none := by
      rw [State.closeRestored_of_some he, State.startAllFaulted_episode]
    rw [hclose] at hle ⊢
    refine magnitudeSound_of_reference ?_ hepisode ?_ ?_ hle <;> simp [State.closeRestored_of_some he]

theorem MagnitudeSound.serveKind {s : State} (h : MagnitudeSound s) (k : RequestKind) (q : Items) :
    MagnitudeSound (serveKind k q s).1 := by
  cases k
  case configure => exact serveWith_keeps_accepted h fun hr => h.acceptConfig hr
  case start => exact serveWith_keeps_accepted h fun hr => h.acceptStart hr
  case stop => exact serveWith_keeps h h.acceptStop
  case clearHalt => exact serveWith_keeps_accepted h fun hr => h.acceptClearHalt hr
  case reference =>
    exact serveWith_keeps_accepted h fun hr => h.acceptReference hr (Nat.min_le_right ..)
  case readConfig | readCells | planList | readEpisode | readStatus => exact serveWith_keeps h h
  case planPut | planDrop | planClear | takeNotices | noticeMask | linkReset =>
    exact serveWith_keeps h (h.congr (htarget := State.target_congr))
  case bypassCell | returnCell =>
    simp only [Machine.serveKind, serveBypassCell, serveReturnCell]
    split
    · exact serveWith_keeps h h
    · exact serveWith_keeps h (h.enterState ..)
  case routeSet | routeRead | extSet | readCell =>
    simp only [Machine.serveKind, serveRouteSet, serveRouteRead, serveExtSet, serveReadCell]
    split <;> exact serveWith_keeps h (h.congr (htarget := State.target_congr))

/-! ## Every step -/

/-- Settles O13: a plan is committed only while the cascade is blocked, and what a magnitude is applied from is
clamped to the plan's r when it is put in force. -/
theorem appliedMagnitudeNeverExceedsR : Obligations.AppliedMagnitudeNeverExceedsR := by
  intro s t hs hstep
  refine step_keeps (P := MagnitudeSound) (fun s x h => h.alike { states := fun _ => rfl })
    (fun s l h => h.alike { states := fun _ => rfl }) (fun c s t hs hexec => ?_) hs hstep
  exact exec_keeps (P := MagnitudeSound) (fun s l h => h.alike { states := fun _ => rfl })
    (fun s b h => h.alike { states := fun _ => rfl })
    (fun s => s.deviceReset_blocked.sound) (fun k q s h => h.serveKind k q) (fun s h => h.beat)
    (fun s h => h.rampCompletion)
    (fun i b s h => h.receiveChar i b) (fun i s h => h.answerMissing i)
    (fun l mv s h => h.extLineSample l mv) (fun i b s h => h.feedbackSample i b)
    (fun x i s _ h => h.pulseTimeout x i) (fun s h => h.gateCompletion) (fun s h => h.settleExpiry)
    (fun s h => h.windowExpiry) (fun s h => h.handoverExpiry) (fun s h => h.supervisionExpiry)
    (fun a b s h => h.alike (s.alike_encoderSample a b)) hs hexec

end Sys2Proof.Machine
end

section
/-! REFERENCE in RUNNING (R122, R137, R138). -/

namespace Sys2Proof.Machine

/-- A two-byte value in two's complement. -/
theorem signed16_eq {w : Nat} (hw : w < 256 ^ 2) :
    signed16 w = if w < 0x8000 then (w : Int) else (w : Int) - 0x10000 := by
  simp only [signed16, BitVec.toInt, BitVec.toNat_ofNat]
  split <;> split <;> omega

/-- An accepted REFERENCE in RUNNING written out (R138). -/
theorem State.acceptReference_of_running {s : State} (hd : s.drive.state = .running) (r : Reference) :
    s.acceptReference r = { s with
      drive := { s.drive with
        reference := some r
        supervision := some { start := s.partTime, length := 1000 * s.config.supervision } }
      mod := { s.mod with mag := r.mag, freq := r.freq } } := by
  simp only [State.acceptReference, hd, State.timer]

/-- Settles O32: the refusals in the order of the checks, and the reference that passes them. -/
theorem referenceIsClampedAndApplied : Obligations.ReferenceIsClampedAndApplied := by
  intro tag p q s h hp refused open'
  have hopen : open' ↔ s.drive.state = .running ∨ (s.drive.state = .riding ∧ s.phase = some .handover) := by
    simp [open', State.phase]
  have refuse {c : RefusalCause} (hc : refuseReference q s = some c) : refused c :=
    request_refused (k := .reference) h hp (by simp only [serveKind, serveReference, hc, serveWith])
  refine ⟨fun ho => refuse ?_, fun ho hu => refuse ?_, fun ho hu hw => refuse ?_,
    fun u w ho hu hw hlt => refuse ?_, fun u ho hu hw hle => refuse ?_, fun u w f hd hu hw hle hne hf => ?_⟩
  · rw [refuseReference, if_neg (mt hopen.mpr ho)]
  · rw [refuseReference, if_pos (hopen.mp ho)]
    simp [firstAbsent, hu]
  · rw [refuseReference, if_pos (hopen.mp ho)]
    obtain ⟨u, hu⟩ := Option.ne_none_iff_exists'.mp hu
    simp [firstAbsent, hu, hw]
  · rw [refuseReference, if_pos (hopen.mp ho)]
    simp [firstAbsent, fieldD, hu, hw, hlt]
  · rw [refuseReference, if_pos (hopen.mp ho)]
    simp [firstAbsent, fieldD, hu, hw, hle, signed16_eq]
  · intro g
    have hlt : w < 256 ^ 2 := hp.field_lt hw rfl
    have hf' : signed16 w = f := (signed16_eq hlt).trans hf.symm
    have hg : max (-(s.config.fLimit : Int)) (min (s.config.fLimit : Int) f) = g := by
      simp only [g]
      split
      · omega
      · split <;> omega
    have href : s.referenceOf q =
        { demand := u, frequency := f, mag := min u s.ratio, freq := g, limited := decide (s.ratio < u)
          clamped := decide (g ≠ f), time := s.partTime } := by
      rw [State.referenceOf, fieldD_of_some hu, fieldD_of_some hw, hf', referenceFrom, hg]
      simp only [clamped_iff, hg]
    have hr : refuseReference q s = none := refuseReference_none_running hd hu hw hle (signed16_ge hlt hne)
    have accepted : exec (.reference tag p) s =
        .next ((s.acceptReference (s.referenceOf q)).answered 0x06 tag
          (.ok (referenceBytes (s.referenceOf q)))) :=
      request_accepted (k := .reference) h hp (by simp only [serveKind, serveReference, hr, serveWith])
    rw [accepted, href, State.acceptReference_of_running hd, referenceBytes_eq, ← byte2_eq, ← byte2s_eq]
    simp only [decide_eq_true_eq]

end Sys2Proof.Machine
end

section
/-! The carrier offsets of a commit (R125, R126). -/

namespace Sys2Proof.Machine

/-- The two parts of a carrier offset, of a place below the number of places, lie in the first half of the
period (R126). -/
theorem carrierParts_lt {x m j p : Nat} (hx : x ≤ 2) (hj : j < m) (hp : 0 < p) :
    2 * (j * p / (2 * m) + x * p / (6 * m)) < p := by
  have hplace : j * p / (2 * m) * (2 * m) ≤ j * p := Nat.div_mul_le_self ..
  have hphase : x * p / (6 * m) * (6 * m) ≤ x * p := Nat.div_mul_le_self ..
  have hj' : (j + 1) * p ≤ m * p := Nat.mul_le_mul_right p hj
  have hx' : x * p ≤ 2 * p := Nat.mul_le_mul_right p hx
  refine Nat.lt_of_mul_lt_mul_left (a := 3 * m) ?_
  linarith

/-- Their sum needs no reduction by the period (R125). -/
theorem carrierOffset_eq {x m j p : Nat} (hx : x ≤ 2) (hj : j < m) (hp : 0 < p) :
    carrierOffset x m j p = j * p / (2 * m) + x * p / (6 * m) :=
  Nat.mod_eq_of_lt (by have := carrierParts_lt hx hj hp; omega)

theorem two_mul_carrierOffset_lt {x m j p : Nat} (hx : x ≤ 2) (hj : j < m) (hp : 0 < p) :
    2 * carrierOffset x m j p < p := by
  rw [carrierOffset_eq hx hj hp]
  exact carrierParts_lt hx hj hp

/-- The carrier offsets of a phase ascend with the place while each place has a unit of the period (R126). -/
theorem carrierOffset_strictMono {x m j k p : Nat} (hx : x ≤ 2) (hjk : j < k) (hk : k < m)
    (hp : 2 * m ≤ p) : carrierOffset x m j p < carrierOffset x m k p := by
  have hm : 0 < 2 * m := by omega
  have hstep : j * p / (2 * m) < k * p / (2 * m) :=
    calc j * p / (2 * m) < j * p / (2 * m) + 1 := Nat.lt_succ_self _
      _ = (j * p + 2 * m) / (2 * m) := (Nat.add_div_right _ hm).symm
      _ ≤ (j * p + p) / (2 * m) := Nat.div_le_div_right (Nat.add_le_add_left hp _)
      _ = (j + 1) * p / (2 * m) := congrArg (· / _) (Nat.succ_mul j p).symm
      _ ≤ k * p / (2 * m) := Nat.div_le_div_right (Nat.mul_le_mul_right p hjk)
  rw [carrierOffset_eq hx (hjk.trans hk) (by omega), carrierOffset_eq hx hk (by omega)]
  exact Nat.add_lt_add_right hstep _

/-- A filter that keeps strictly more of a list leaves strictly more. -/
theorem length_filter_lt {α : Type} {l : List α} {P Q : α → Bool}
    (h : ∀ a, P a = true → Q a = true) {a : α} (ha : a ∈ l) (hP : ¬P a = true) (hQ : Q a = true) : (l.filter P).length < (l.filter Q).length := by
  have hsub : (l.filter P).Sublist (l.filter Q) := List.monotone_filter_right l h
  refine Nat.lt_of_not_le fun hle => hP ?_
  have hmem : a ∈ l.filter P := hsub.eq_of_length_le hle ▸ List.mem_filter.mpr ⟨ha, hQ⟩
  exact (List.mem_filter.mp hmem).2

section
variable {s : State} {p : SlotState → Bool} {i j : Slot}

/-- A phase has nine slots. -/
theorem State.countPhase_le (s : State) (p : SlotState → Bool) (i : Slot) :
    s.countPhase p (slotPhase i) ≤ 9 := by
  have hphase : (allSlots.filter fun j => decide (slotPhase j = slotPhase i)).length ≤ 9 := by
    revert i; decide
  refine (List.Sublist.length_le (List.monotone_filter_right _ fun j hj => ?_)).trans hphase
  exact (Bool.and_eq_true_iff.mp hj).1

/-- The place of a slot that is counted is one of the phase's places. -/
theorem State.placeOf_lt_countPhase (hi : p (s.slot i).state = true) :
    s.placeOf p i < s.countPhase p (slotPhase i) :=
  length_filter_lt (by simp +contextual) (mem_allSlots i) (by simp) (by simp [hi])

/-- The places of a phase ascend with the slot. -/
theorem State.placeOf_lt_placeOf (hi : p (s.slot i).state = true) (hij : i < j)
    (hphase : slotPhase j = slotPhase i) : s.placeOf p i < s.placeOf p j := by
  refine length_filter_lt (fun k hk => ?_) (mem_allSlots i) (by simp) (by simp [hi, hij, hphase])
  simp only [Bool.and_eq_true, decide_eq_true_eq] at hk ⊢
  obtain ⟨⟨hk, hlt⟩, hp⟩ := hk
  exact ⟨⟨hk.trans hphase.symm, hlt.trans hij⟩, hp⟩

end

/-- The carrier offset a commit gives an ACTIVE slot (R125). -/
theorem State.commit_offset {s : State} {i : Slot} (hi : (s.commit.slot i).state = .active) :
    (s.commit.slot i).offset = some (carrierOffset (slotPhase i)
      (s.commit.countPhase (fun x => decide (x = .active)) (slotPhase i))
      (s.commit.placeOf (fun x => decide (x = .active)) i) s.config.period) := by
  rw [State.countPhase_congr s.commit_state, State.placeOf_congr s.commit_state, State.commit_slot]
  rw [State.commit_state] at hi
  simp only [hi, if_true]

/-- Settles O50: the offsets are those of the places, which ascend within a phase. -/
theorem carrierOffsetsAreDistinct : Obligations.CarrierOffsetsAreDistinct := by
  intro s hs
  have hperiod := hs.period.1
  have hx (i : Slot) : slotPhase i ≤ 2 := by unfold slotPhase; omega
  have hplace (i : Slot) (hi : (s.commit.slot i).state = .active) :=
    State.placeOf_lt_countPhase (p := fun x => decide (x = .active)) (decide_eq_true hi)
  refine ⟨by rw [State.commit_eq]; simp [State.commitPlan], fun i hi =>
    ⟨_, State.commit_offset hi, two_mul_carrierOffset_lt (hx i) (hplace i hi) (by omega),
      fun j hij hphase hj => ⟨_, State.commit_offset hj, ?_⟩⟩⟩
  have hphase : slotPhase j = slotPhase i := hphase
  have hcount := s.commit.countPhase_le (fun x => decide (x = .active)) j
  rw [← hphase]
  exact carrierOffset_strictMono (hx j) (State.placeOf_lt_placeOf (decide_eq_true hi) hij hphase)
    (hplace j hj) (by omega)

end Sys2Proof.Machine
end

section
/-! The encoder's samples (R109). -/

namespace Sys2Proof.Machine

/-- The step from each line state to itself and to the three others, along the order 00, 10, 11, 01 (R109). -/
theorem encoderStep_cases (x y : Bool) : encoderStep (x, y) (x, y) = .still ∧
    encoderStep (x, y) (!y, x) = .forward ∧ encoderStep (x, y) (y, !x) = .reverse ∧
    encoderStep (x, y) (!x, !y) = .illegal := by
  cases x <;> cases y <;> decide

/-- Settles O60: the sample held, and the step from the held state counted into the gate. -/
theorem encoderSamplesAreCounted : Obligations.EncoderSamplesAreCounted := by
  intro a b s hs sampled
  have hexec (gate : Option Gate) (h : (s.encoderSample a b).speed.gate = gate) :
      exec (.encoderSample a b) s = .next (sampled gate) := by
    subst h
    exact live_of_not_inReset hs
  refine ⟨fun h => hexec _ (by simp [State.encoderSample, h]), fun h => hexec _ ?_, fun x y g h hg => ?_⟩
  · cases hheld : s.speed.held <;> simp [State.encoderSample, h, hheld]
  · have hgate : (s.encoderSample a b).speed.gate = some (g.counted (encoderStep (x, y) (a, b))) := by
      simp [State.encoderSample, h, hg]
    obtain ⟨hstill, hforward, hreverse, hillegal⟩ := encoderStep_cases x y
    refine ⟨?_, ?_, ?_, ?_⟩ <;> (rintro rfl rfl; refine hexec _ (hgate.trans ?_))
    · rw [hstill]; rfl
    · rw [hforward]; rfl
    · rw [hreverse]; rfl
    · rw [hillegal]; rfl

end Sys2Proof.Machine
end

section
/-! Every command answers a next state, and the waiting commands stand (R128, R155, R179). -/

namespace Sys2Proof.Machine

/-! ## The control link leaves the waiting commands -/

/-- A frame that arrives, and the service of the head request, leave the waiting commands. -/
@[simp] theorem State.arrive_pending (r : Request) (s : State) : (s.arrive r).pending = s.pending :=
  arrive_keeps (P := fun t => t.pending = s.pending) (fun _ _ h => h) (fun _ _ _ h => by simpa using h) rfl r

@[simp] theorem State.serveHead_pending (s : State) : s.serveHead.pending = s.pending :=
  serveHead_keeps (P := fun t => t.pending = s.pending) (fun _ _ h => h) (fun _ _ _ h => by simpa using h) rfl

@[simp] theorem State.takeByte_pending (bytes : List Byte) (b : Byte) (s : State) :
    (s.takeByte bytes b).pending = s.pending :=
  takeByte_keeps (P := fun t => t.pending = s.pending) (fun _ _ h => h) (fun _ _ _ h => by simpa using h) rfl
    bytes b

theorem State.request_pending (k tag : Byte) (p : List Byte) (s : State) :
    (s.request k tag p).pending = s.pending :=
  request_keeps (P := fun t => t.pending = s.pending) k tag p (by simp) (by simp)

theorem State.framingError_pending (s : State) : s.framingError.pending = s.pending := by
  unfold State.framingError
  split <;> simp

theorem State.frameLengthReject_pending (len : Byte) (s : State) :
    (s.frameLengthReject len).pending = s.pending := by
  unfold State.frameLengthReject
  (repeat' split) <;> simp

theorem State.interbyteGap_pending (s : State) : s.interbyteGap.pending = s.pending := by
  unfold State.interbyteGap
  (repeat' split) <;> simp

theorem State.frameComplete_pending (b : Byte) (s : State) : (s.frameComplete b).pending = s.pending := by
  unfold State.frameComplete
  (repeat' split) <;> simp

theorem State.receiveByte_pending (b : Byte) (s : State) : (s.receiveByte b).pending = s.pending := by
  unfold State.receiveByte
  (repeat' split) <;> simp

theorem State.transmitBegin_pending (s : State) : s.transmitBegin.pending = s.pending := by
  unfold State.transmitBegin
  split <;> rfl

theorem State.transmitComplete_pending (s : State) : s.transmitComplete.pending = s.pending := by
  unfold State.transmitComplete
  (repeat' split) <;> simp

/-! ## Every command -/

/-- A command is DEVICE_RESET, RESET_END, or an effect that a device reset holds off and that leaves the
waiting commands (log entry 6). -/
theorem exec_cases (c : Instr) : (∃ mv rn, c = .deviceReset mv rn) ∨
    (∃ mv rn a b, c = .resetEnd mv rn a b) ∨
    ∃ f : State → State, exec c = live f ∧ ∀ s, (f s).pending = s.pending := by
  cases c
  case deviceReset mv rn => exact .inl ⟨mv, rn, rfl⟩
  case resetEnd mv rn a b => exact .inr (.inl ⟨mv, rn, a, b, rfl⟩)
  all_goals refine .inr (.inr ?_)
  case unknownKindRequest | configure | readConfig | start | stop | clearHalt | reference | bypassCell |
      returnCell | readCell | readCells | routeSet | routeRead | extSet | planPut | planDrop | planClear |
      planList | readEpisode | takeNotices | noticeMask | readStatus | linkReset =>
    exact ⟨_, rfl, State.request_pending _ _ _⟩
  case framingError => exact ⟨_, rfl, State.framingError_pending⟩
  case frameLengthReject len => exact ⟨_, rfl, State.frameLengthReject_pending len⟩
  case interbyteGapTimeout => exact ⟨_, rfl, State.interbyteGap_pending⟩
  case frameComplete b => exact ⟨_, rfl, State.frameComplete_pending b⟩
  case receiveByte b => exact ⟨_, rfl, State.receiveByte_pending b⟩
  case transmitBegin => exact ⟨_, rfl, State.transmitBegin_pending⟩
  case transmitComplete => exact ⟨_, rfl, State.transmitComplete_pending⟩
  case beat => exact ⟨State.beat, rfl, by simp⟩
  case rampCompletion => exact ⟨State.rampCompletion, rfl, by simp⟩
  case statusFrameGood i l | statusFrameBad i l => exact ⟨State.receiveChars i l, rfl, by simp⟩
  case answerMissing i => exact ⟨State.answerMissing i, rfl, by simp⟩
  case extLineSample l mv => exact ⟨State.extLineSample l mv, rfl, by simp⟩
  case feedbackSample i b => exact ⟨State.feedbackSample i b, rfl, by simp⟩
  case bypassTimeout i => exact ⟨State.pulseTimeout .bypassing i, rfl, by simp⟩
  case returnOperationTimeout i => exact ⟨State.pulseTimeout .returning i, rfl, by simp⟩
  case gateCompletion => exact ⟨State.gateCompletion, rfl, by simp⟩
  case settleExpiry => exact ⟨State.settleExpiry, rfl, by simp⟩
  case windowExpiry => exact ⟨State.windowExpiry, rfl, by simp⟩
  case handoverExpiry => exact ⟨State.handoverExpiry, rfl, by simp⟩
  case supervisionExpiry => exact ⟨State.supervisionExpiry, rfl, by simp⟩
  case encoderSample a b => exact ⟨State.encoderSample a b, rfl, by simp⟩

/-- Settles O3: the two commands of the device reset answer a state with the same waiting commands, and so
does every effect, which a device reset holds off. -/
theorem everyCommandCompletes : Obligations.EveryCommandCompletes := by
  intro c s
  rcases exec_cases c with ⟨mv, rn, rfl⟩ | ⟨mv, rn, a, b, rfl⟩ | ⟨f, hc, hf⟩
  · refine ⟨⟨_, rfl, ?_⟩, fun _ hreset _ => absurd rfl (hreset mv rn)⟩
    split <;> rfl
  · refine ⟨⟨_, rfl, ?_⟩, fun _ _ hend => absurd rfl (hend mv rn a b)⟩
    split <;> rfl
  · rw [hc]
    exact ⟨⟨_, rfl, by split <;> simp [hf]⟩, fun hreset _ _ => live_of_inReset hreset⟩

end Sys2Proof.Machine
end

section
/-! Every parameter in its range, through every step (R129, R169, R170). -/

namespace Sys2Proof.Machine

/-! ## The parameters after a CONFIGURE -/

theorem between_eq_true {lo hi v : Nat} : between lo hi v = true ↔ lo ≤ v ∧ v ≤ hi := by
  simp [between]

/-- The values of an accepted CONFIGURE lie in their ranges, with the N it leaves in force (R169, R170). -/
theorem refuseConfigure_paramOk {q : Items} {s : State} (h : refuseConfigure q s = none) :
    ∀ id ∈ configIds, ∀ v, field q id = some v →
      paramOk ((configAfter q s.config).n.getD 0) id v = true := by
  unfold refuseConfigure at h
  simp only [firstRefusal_eq_none, List.forall_mem_append, List.forall_mem_map, fieldOk_eq_true] at h
  obtain ⟨⟨-, hrange⟩, -⟩ := h
  exact hrange

/-- A parameter that a request writes or leaves has what the standing value and every allowed value have. -/
theorem field_getD {q : Items} {id d : Nat} {P : Nat → Prop} (hd : P d)
    (hq : ∀ v, field q id = some v → P v) : P ((field q id).getD d) := by
  cases h : field q id with
  | none => exact hd
  | some v => exact hq v h

/-- N stands, or an N of 2 or more joins a configuration without one: the standing min_cells stays in range. -/
theorem ConfigInRange.minCells_le {c d : Config} (h : ConfigInRange c) (hd : d.n = c.n ∨ c.n = none)
    (hn : ∀ n, d.n = some n → 2 ≤ n) : c.minCells ≤ d.n.getD 2 := by
  have hmin := h.minCells.2
  rcases hd with hd | hc
  · rwa [hd]
  · rw [hc, Option.getD_none] at hmin
    cases hdn : d.n with
    | none => exact hmin
    | some n => exact hmin.trans (hn n hdn)

/-- A configuration in range stays in range where every value carried lies in its range for the N left in
force, and N is brought only where it was absent (R169, R170). -/
theorem ConfigInRange.afterConfigure {c : Config} {q : Items} (h : ConfigInRange c)
    (hq : ∀ id ∈ configIds, ∀ v, field q id = some v →
      paramOk ((configAfter q c).n.getD 0) id v = true)
    (hn : (configAfter q c).n = c.n ∨ c.n = none) : ConfigInRange (configAfter q c) := by
  have range (id : Nat) (hid : id ∈ configIds) {lo hi d : Nat}
      (hp : paramOk ((configAfter q c).n.getD 0) id = between lo hi) (hd : lo ≤ d ∧ d ≤ hi) :
      lo ≤ (field q id).getD d ∧ (field q id).getD d ≤ hi :=
    field_getD (P := fun v => lo ≤ v ∧ v ≤ hi) hd fun v hv =>
      between_eq_true.mp (hp ▸ hq id hid v hv)
  have hcells (n : Nat) (hafter : (configAfter q c).n = some n) : 2 ≤ n ∧ n ≤ 9 := by
    cases hf : field q 1 with
    | none => exact h.n n (by simpa [configAfter, hf] using hafter)
    | some v =>
      have hv : v = n := by simpa [configAfter, hf] using hafter
      exact hv ▸ between_eq_true.mp (hq 1 (by decide) v hf)
  exact
    { n := hcells
      period := range 2 (by decide) rfl h.period
      linkLoss := range 3 (by decide) rfl h.linkLoss
      vTrip := range 4 (by decide) rfl h.vTrip
      vRelease := range 5 (by decide) rfl h.vRelease
      bypassTimeout := range 6 (by decide) rfl h.bypassTimeout
      settle := (range 7 (by decide) rfl ⟨Nat.zero_le _, h.settle⟩).2
      window := range 8 (by decide) rfl h.window
      ramp := range 9 (by decide) rfl h.ramp
      handover := range 10 (by decide) rfl h.handover
      supervision := range 11 (by decide) rfl h.supervision
      minCells := by
        refine field_getD (P := fun v => 1 ≤ v ∧ v ≤ (configAfter q c).n.getD 2)
          ⟨h.minCells.1, h.minCells_le hn fun n hafter => (hcells n hafter).1⟩ fun v hv => ?_
        obtain ⟨hlo, hhi⟩ := between_eq_true.mp (hq 12 (by decide) v hv)
        cases hafter : (configAfter q c).n with
        | none => simp [hafter] at hhi; omega
        | some n => exact ⟨hlo, by simpa [hafter] using hhi⟩
      fMax := range 13 (by decide) rfl h.fMax
      encoderLines := range 14 (by decide) rfl h.encoderLines
      polePairs := range 15 (by decide) rfl h.polePairs
      gate := field_getD (P := fun v => v = 2 ∨ v = 5 ∨ v = 10 ∨ v = 20) h.gate fun v hv => by
        simpa [paramOk] using hq 16 (by decide) v hv
      fRated := range 17 (by decide) rfl h.fRated
      boost := (range 18 (by decide) rfl ⟨Nat.zero_le _, h.boost⟩).2
      fLimit := range 19 (by decide) rfl h.fLimit
      fOver := range 20 (by decide) rfl h.fOver
      runaway := range 21 (by decide) rfl h.runaway }

/-! ## The requests -/

theorem ConfigSound.mode {s : State} (h : ConfigSound s) : ModeSound s := h.1

theorem ConfigSound.inRange {s : State} (h : ConfigSound s) : ConfigInRange s.config := h.2

/-- The condition on the configuration where the configuration stands. -/
theorem ConfigSound.of_mode {s t : State} (h : ConfigSound s) (hmode : ModeSound t)
    (hconfig : t.config = s.config := by simp) : ConfigSound t :=
  ⟨hmode, by rw [hconfig]; exact h.inRange⟩

/-- An accepted CONFIGURE writes the configuration it carries (R172). -/
theorem State.acceptConfig_config (q : Items) (s : State) :
    (s.acceptConfig q).config = configAfter q s.config := by
  unfold State.acceptConfig
  dsimp only
  split <;> simp

theorem ConfigSound.acceptConfig {s : State} (h : ConfigSound s) {q : Items}
    (hr : refuseConfigure q s = none) : ConfigSound (s.acceptConfig q) := by
  refine ⟨h.mode.acceptConfig hr, ?_⟩
  rw [State.acceptConfig_config]
  refine h.inRange.afterConfigure (refuseConfigure_paramOk hr) ?_
  by_cases hd : s.drive.state = .unconfigured
  · exact .inr (h.mode.unconfigured_iff.mp hd)
  · exact .inl (configAfter_n hr hd)

/-- No request but CONFIGURE writes a parameter. -/
theorem serveKind_config {k : RequestKind} (hk : k ≠ .configure) (q : Items) (s : State) :
    (serveKind k q s).1.config = s.config := by
  by_cases hplan : k ∈ [.planPut, .planDrop, .planClear]
  · simp only [List.mem_cons, List.not_mem_nil, or_false] at hplan
    rcases hplan with rfl | rfl | rfl <;>
      exact serveWith_keeps (P := fun t => t.config = s.config) rfl rfl
  · exact (serveKind_plans (mt List.mem_cons.mp (not_or.mpr ⟨hk, hplan⟩)) q s).2

theorem ConfigSound.serveKind {s : State} (h : ConfigSound s) (k : RequestKind) (q : Items) :
    ConfigSound (serveKind k q s).1 := by
  by_cases hk : k = .configure
  · subst hk
    exact serveWith_keeps_accepted h fun hr => h.acceptConfig hr
  · exact h.of_mode (modeSound_blocks.serveKind h.mode k q) (serveKind_config hk q s)

/-! ## Every step -/

/-- Settles O10: an accepted CONFIGURE alone writes parameters, after it has checked their ranges. -/
theorem configurationStaysInRange : Obligations.ConfigurationStaysInRange := by
  have hmode := modeSound_blocks
  obtain ⟨-, -, -, -, hreset, -⟩ := resetStateIsSound
  intro s t hs hstep
  refine step_keeps (P := ConfigSound) (fun s x h => h.of_mode (h.mode.same (by simp)))
    (fun s l h => h.of_mode (h.mode.same (by simp))) (fun c s t hs hexec => ?_) hs hstep
  exact exec_keeps (P := ConfigSound) (fun s l h => h.of_mode (h.mode.same (by simp)))
    (fun s b h => h.of_mode (h.mode.same (by simp)))
    (fun s => ⟨hmode.reset s, hreset.inRange⟩) (fun k q s h => h.serveKind k q)
    (fun s h => h.of_mode (hmode.beat h.mode))
    (fun s h => h.of_mode h.mode.rampCompletion)
    (fun i b s h => h.of_mode (hmode.receiveChar h.mode i b))
    (fun i s h => h.of_mode (hmode.answerMissing h.mode i))
    (fun l mv s h => h.of_mode (hmode.extLineSample h.mode l mv))
    (fun i b s h => h.of_mode (hmode.feedbackSample h.mode i b))
    (fun x i s _ h => h.of_mode (hmode.pulseTimeout h.mode x i))
    (fun s h => h.of_mode (hmode.gateCompletion h.mode))
    (fun s h => h.of_mode h.mode.settleExpiry)
    (fun s h => h.of_mode h.mode.windowExpiry)
    (fun s h => h.of_mode h.mode.handoverExpiry)
    (fun s h => h.of_mode h.mode.supervisionExpiry)
    (fun a b s h => h.of_mode (hmode.alike (s.alike_encoderSample a b) h.mode)) hs hexec

end Sys2Proof.Machine
end

section
/-! CLEAR_HALT and START (R132, R133, R144). -/

namespace Sys2Proof.Machine

/-! ## CLEAR_HALT -/

/-- CLEAR_HALT's checks in order (R144). -/
theorem refuseClearHalt_eq (s : State) : refuseClearHalt s =
    if s.drive.state = .halted then
      if s.speed.last.f = 0 ∧ s.speed.last.valid = true then none else some .moving
    else some .state := by
  simp [refuseClearHalt, firstRefusal_nil]

/-- CLEAR_HALT leaves the part in STOPPED (R144). -/
theorem State.acceptClearHalt_state (s : State) : s.acceptClearHalt.drive.state = .stopped := by
  simp [State.acceptClearHalt]

/-- Settles O31: each clause is one outcome of the two checks. -/
theorem clearHaltNeedsAValidStandstill : Obligations.ClearHaltNeedsAValidStandstill := by
  intro tag s h
  have refused {c : RefusalCause} (hc : refuseClearHalt s = some c) :
      exec (.clearHalt tag []) s = .next (s.answered 0x05 tag (.refused c)) :=
    request_refused (k := .clearHalt) h (carries_nil _)
      (by simp only [serveKind, serveClearHalt, hc, serveWith])
  refine ⟨fun hd => refused ?_, fun hd hmoving => refused ?_, fun hd hf hvalid => ?_⟩
  · rw [refuseClearHalt_eq, if_neg hd]
  · rw [refuseClearHalt_eq, if_pos hd, if_neg]
    rintro ⟨hf, hvalid⟩
    simp [hf, hvalid] at hmoving
  · have hc : refuseClearHalt s = none := by rw [refuseClearHalt_eq, if_pos hd, if_pos ⟨hf, hvalid⟩]
    refine request_accepted (k := .clearHalt) h (carries_nil _) ?_
    simp only [serveKind, serveClearHalt, hc, serveWith, driveItem, State.acceptClearHalt_state]
    rfl

/-! ## START -/

/-- The slot states that START refuses (R132). -/
theorem SlotState.unsettled_eq_true {x : SlotState} : x.unsettled = true ↔
    x = .stuck ∨ x = .faulted ∨ x = .bypassing ∨ x = .returning := by
  cases x <;> simp [SlotState.unsettled]

/-- START finds every configured slot settled (R132). -/
theorem all_settled_iff (s : State) :
    (allSlots.all fun i => !(s.configured i && (s.slot i).state.unsettled)) = true ↔
      ¬∃ i, s.configured i = true ∧
        ((s.slot i).state = .stuck ∨ (s.slot i).state = .faulted ∨ (s.slot i).state = .bypassing ∨
          (s.slot i).state = .returning) := by
  simp only [← SlotState.unsettled_eq_true]
  simp [mem_allSlots, or_iff_not_imp_left]

/-- Each phase has its candidates where none has too few (R132). -/
theorem State.tooFew_eq_false (s : State) : s.tooFew = false ↔
    ∀ x, x < 3 → s.config.minCells ≤ s.countPhase SlotState.candidate x := by
  rw [← Bool.not_eq_true, State.tooFew_iff]
  push Not
  rfl

/-- An accepted START commits, and then the drive runs with the applied values at 0 (R133). -/
theorem State.acceptStart_eq (s : State) : s.acceptStart = State.offer (.driveState .running 0)
    { s.commit with
      mod := { s.mod with theta := 0, mag := 0, freq := 0 }
      drive := { s.drive with
        state := .running
        reference := none
        supervision := some { start := s.partTime, length := 1000 * s.config.supervision } } } := by
  simp only [State.acceptStart, State.timer, State.commit_frame]

/-- Settles O29: each clause is one outcome of the chain of checks. -/
theorem startCommitsAndRuns : Obligations.StartCommitsAndRuns := by
  intro tag s h unsettled enough
  have refused {c : RefusalCause} (hc : refuseStart s = some c) :
      exec (.start tag []) s = .next (s.answered 0x03 tag (.refused c)) :=
    request_refused (k := .start) h (carries_nil _) (by simp only [serveKind, serveStart, hc, serveWith])
  have hslots := all_settled_iff s
  have henough : (!s.tooFew) = true ↔ enough := (Bool.not_eq_true' _).to_iff.trans s.tooFew_eq_false
  refine ⟨fun hd => refused ?_, fun hd hu => refused ?_, fun hd hu hfew => refused ?_,
    fun hd hu hall => ?_⟩
  · simp [refuseStart, hd]
  · have hslots := mt hslots.mp (not_not_intro hu)
    simp only [refuseStart, firstRefusal_cons, hd, decide_true, if_true, if_neg hslots]
  · simp only [refuseStart, firstRefusal_cons, hd, decide_true, if_true, if_pos (hslots.mpr hu),
      if_neg (mt henough.mp hfew)]
  · have hc : refuseStart s = none := by
      simp only [refuseStart, firstRefusal_cons, firstRefusal_nil, hd, decide_true, if_true,
        if_pos (hslots.mpr hu), if_pos (henough.mpr hall)]
    intro t
    have ht : s.acceptStart = t := s.acceptStart_eq
    refine request_accepted (k := .start) h (carries_nil _) ?_
    simp only [serveKind, serveStart, hc, serveWith, ht]

end Sys2Proof.Machine
end

section
/-! Requests offered, queued, served and refused, and LINK_RESET (R151 to R153, R157). -/

namespace Sys2Proof.Machine

/-! ## The head of the request queue -/

/-- With no request waiting nothing is served. -/
theorem State.serveHead_nil {s : State} (h : s.link.requests = []) : s.serveHead = s := by
  simp only [State.serveHead, h]

/-- While the reply queue is full nothing is served (R152). -/
theorem State.serveHead_full {s : State} (h : 2 ≤ s.link.replies.length) : s.serveHead = s := by
  unfold State.serveHead
  split
  · rfl
  · exact if_neg (Nat.not_lt.mpr h)

/-- With a place in the reply queue the head is served and answered (R152). -/
theorem State.serveHead_cons {r : Request} {rest : List Request} {s : State}
    (hrequests : s.link.requests = r :: rest) (hreplies : s.link.replies.length < 2) :
    s.serveHead = (serveRequest r (s.setRequests rest)).1.answered r.kind r.tag
      (serveRequest r (s.setRequests rest)).2 := by
  simp only [State.serveHead, hrequests]
  exact if_pos hreplies

/-! ## A request that arrives -/

/-- A request queue with room takes the request (R151). -/
theorem State.offerRequest_room {s : State} (h : s.link.requests.length < 4) (r : Request) :
    s.offerRequest r = s.setRequests (s.link.requests ++ [r]) := if_pos h

/-- A full request queue leaves a BUSY refusal in an empty slot (R151). -/
theorem State.offerRequest_refused {s : State} (h : s.link.requests.length = 4)
    (hslot : s.link.refusal = none) (r : Request) : s.offerRequest r =
      { s with link := { s.link with refusal := some { kind := r.kind, tag := r.tag } } } := by
  rw [State.offerRequest, if_neg (by simp [h, Config.requestCapacity]), hslot]

/-- A request that finds the queue full and the refusal slot occupied is dropped and counted (R151). -/
theorem State.offerRequest_dropped {s : State} (h : s.link.requests.length = 4)
    (hslot : s.link.refusal.isSome = true) (r : Request) : s.offerRequest r = s.countDiscard := by
  obtain ⟨b, hb⟩ := Option.isSome_iff_exists.mp hslot
  rw [State.offerRequest, if_neg (by simp [h, Config.requestCapacity]), hb]

/-- A request that arrives while the reply queue is full is offered and not served (R151, R152). -/
theorem State.arrive_full {r : Request} {s t : State} (hoffer : s.offerRequest r = t)
    (hreplies : t.link.replies.length = 2) : s.arrive r = t := by
  rw [State.arrive, hoffer, State.serveHead_full hreplies.ge]

/-- A request that arrives with nothing in its way is served at once (R152; log entry 3). -/
theorem State.arrive_served {s : State} (h : s.canServe) (r : Request) :
    s.arrive r = (serveRequest r s).1.answered r.kind r.tag (serveRequest r s).2 := by
  obtain ⟨-, hrequests, hreplies⟩ := h
  have hoffer : s.offerRequest r = s.setRequests [r] := by
    rw [State.offerRequest_room (by simp [hrequests]), hrequests, List.nil_append]
  have hempty : (s.setRequests [r]).setRequests [] = s := State.setRequests_nil hrequests
  rw [State.arrive, hoffer, State.serveHead_cons (s := s.setRequests [r]) rfl hreplies, hempty]

/-! ## The commands of the requests -/

/-- A request's command is the completion of its frame (log entry 2). -/
theorem exec_request {c : Instr} {r : Request} (h : c.request = some r) :
    exec c = live (State.request r.kind r.tag r.payload) := by
  cases c <;> cases h <;> rfl

/-- Outside a device reset a request whose payload a frame can hold arrives. -/
theorem exec_arrives {c : Instr} {r : Request} {s : State} (h : c.request = some r)
    (hp : r.payload.length ≤ 240) (hs : s.inReset = false) : exec c s = .next (s.arrive r) := by
  rw [exec_request h, live_of_not_inReset hs, State.request, if_neg (Nat.not_lt.mpr hp)]

/-! ## The form of a request (R152) -/

/-- The kinds that blocks serve are numbered 1 to 0x16. -/
theorem RequestKind.byte_range (k : RequestKind) : k.byte ≠ 0 ∧ k.byte.toNat ≤ 0x16 := by
  cases k <;> decide

/-- A kind byte of 0 or above 0x16 names no kind. -/
theorem kindOf_eq_none {b : Byte} (h : b = 0 ∨ 0x16 < b.toNat) : kindOf b = none := by
  refine List.find?_eq_none.mpr fun k _ hk => ?_
  obtain ⟨hzero, hmax⟩ := k.byte_range
  obtain rfl := of_decide_eq_true hk
  rcases h with h | h
  · exact hzero h
  · exact absurd hmax (Nat.not_le.mpr h)

theorem serveRequest_unknown {r : Request} (h : kindOf r.kind = none) (s : State) :
    serveRequest r s = (s, .refused .unknownKind) := by
  simp only [serveRequest, h]

theorem serveRequest_length {r : Request} {k : RequestKind} (h : kindOf r.kind = some k)
    (hitems : itemsOf k r.payload = none) (s : State) : serveRequest r s = (s, .refused .length) := by
  simp only [serveRequest, h, hitems]

theorem serveRequest_kind {r : Request} {k : RequestKind} {q : Items} (h : kindOf r.kind = some k)
    (hitems : itemsOf k r.payload = some q) (s : State) : serveRequest r s = serveKind k q s := by
  simp only [serveRequest, h, hitems]

/-- Settles O18: the three ways a full reply queue leaves a request, and the three outcomes of its service. -/
theorem requestsAreQueuedOrServed : Obligations.RequestsAreQueuedOrServed := by
  refine ⟨fun c r s hc hp hs => ?_, fun kind tag p s h hp hkind => ?_⟩
  · have completes {t : State} (ht : s.arrive r = t) : exec c s = .next t := by
      rw [exec_arrives hc hp hs, ht]
    have served {a : State × Answer} (h : s.canServe) (ha : serveRequest r s = a) :
        s.arrive r = a.1.answered r.kind r.tag a.2 := by rw [State.arrive_served h, ha]
    exact ⟨fun hfull hroom => completes (State.arrive_full (State.offerRequest_room hroom r) hfull),
      fun hfull hrequests hslot =>
        completes (State.arrive_full (State.offerRequest_refused hrequests hslot r) hfull),
      fun hfull hrequests hslot =>
        completes (State.arrive_full (State.offerRequest_dropped hrequests hslot r) hfull),
      fun h hkind => completes (served h (serveRequest_unknown hkind s)),
      fun k h hkind hitems => completes (served h (serveRequest_length hkind hitems s)),
      fun k q h hkind hitems => completes (served h (serveRequest_kind hkind hitems s))⟩
  · rw [exec_arrives (r := { kind := kind, tag := tag, payload := p }) rfl hp h.1, State.arrive_served h,
      serveRequest_unknown (kindOf_eq_none hkind)]

/-! ## Refusals (R153) -/

/-- Settles O19: every service answers through `serveWith`, whose refusals leave the part. -/
theorem refusedRequestChangesNothing : Obligations.RefusedRequestChangesNothing := by
  intro k q s c h
  cases k
  case bypassCell | returnCell | readCell | routeSet | routeRead | extSet =>
    simp only [serveKind, serveBypassCell, serveReturnCell, serveReadCell, serveRouteSet, serveRouteRead,
      serveExtSet] at h ⊢
    split at h <;> exact serveWith_refused h
  all_goals exact serveWith_refused h

/-! ## LINK_RESET (R157) -/

/-- Settles O21: the fields LINK_RESET restores, and the reply's three counts. -/
theorem linkResetClearsTheLinkSide : Obligations.LinkResetClearsTheLinkSide := by
  refine ⟨fun s => ?_, fun tag s h => request_carries (k := .linkReset) h (carries_nil _)⟩
  have hattn : ({} : NoticeQueue).attn = false := by decide
  by_cases hbusy : s.link.tx.map (·.source) = some .busy
  · have hsending : s.link.sendingBusy = true := decide_eq_true hbusy
    simp only [serveKind, serveLinkReset, serveWith, State.linkReset, State.updateAttn, hattn,
      hsending, hbusy, if_true, Bool.not_true, Bool.and_false]
    rfl
  · have hsending : s.link.sendingBusy = false := decide_eq_false hbusy
    simp only [serveKind, serveLinkReset, serveWith, State.linkReset, State.updateAttn, hattn,
      hsending, hbusy, if_false, Bool.not_false, Bool.and_true]
    cases s.link.refusal <;> rfl

end Sys2Proof.Machine
end

section
/-! The receiver and the transmitter of the control link, and the rate straps (R147 to R154, R179). -/

namespace Sys2Proof.Machine

/-! ## The rate straps (R147, R179) -/

/-- Settles O5: the levels that release the reset, and the rate of each setting of the straps. -/
theorem resetEndReadsTheRateStraps : Obligations.ResetEndReadsTheRateStraps := by
  intro mv rn a b s
  refine ⟨fun hs hmv hrn => ?_, fun h => ?_⟩
  · have hrate : rateOf a b =
        if a then (if b then .b2000000 else .b921600) else (if b then .b460800 else .b115200) := by
      cases a <;> cases b <;> rfl
    simp [exec, execResetEnd, resetReleased, hs, hmv, hrn, hrate]
  · have hheld : (s.inReset && resetReleased mv rn) = false := by
      rcases h with h | h | h <;> simp [resetReleased, h]
    simp [exec, execResetEnd, hheld]

/-! ## A byte of a frame (R148) -/

/-- Outside a device reset a command answers what its effect comes to. -/
theorem live_eq_next {f : State → State} {s t : State} (hs : s.inReset = false) (h : f s = t) :
    live f s = .next t := by
  rw [live_of_not_inReset hs, h]

/-- A start byte begins a frame (R148). -/
theorem exec_receiveByte_start {s : State} (hs : s.inReset = false) (h : s.link.rx = .hunting) :
    exec (.receiveByte startByte) s = .next (s.setRx (.assembling [] s.partTime)) := by
  refine live_eq_next hs ?_
  simp only [State.receiveByte, h, if_true]

/-- Inside a frame every byte is taken as the frame's next (R148). -/
theorem exec_receiveByte_assembling {bytes : List Byte} {t : PartTime} {s : State} (hs : s.inReset = false)
    (h : s.link.rx = .assembling bytes t) (b : Byte) :
    exec (.receiveByte b) s = .next (s.takeByte bytes b) := by
  refine live_eq_next hs ?_
  simp only [State.receiveByte, h]

/-- A frame whose length byte is above 240 is abandoned (R148, R149). -/
theorem State.takeByte_reject {bytes rest : List Byte} {b len : Byte} (hall : bytes ++ [b] = len :: rest)
    (hlen : 240 < len.toNat) (s : State) : s.takeByte bytes b = s.abandonFrame := by
  simp only [State.takeByte, hall]
  exact if_pos hlen

/-- A byte that does not complete the frame joins the bytes taken (R148). -/
theorem State.takeByte_more {bytes rest : List Byte} {b len : Byte} (hall : bytes ++ [b] = len :: rest)
    (hlen : len.toNat ≤ 240) (hmore : rest.length < len.toNat + 4) (s : State) :
    s.takeByte bytes b = s.setRx (.assembling (len :: rest) s.partTime) := by
  simp only [State.takeByte, hall, List.length_cons]
  rw [if_neg (Nat.not_lt.mpr hlen), if_neg (by omega)]

/-- The last check byte has the frame judged (R148). -/
theorem State.takeByte_last {bytes rest : List Byte} {b len : Byte} (hall : bytes ++ [b] = len :: rest)
    (hlen : len.toNat ≤ 240) (hlast : rest.length = len.toNat + 4) (s : State) :
    s.takeByte bytes b = (s.setRx .hunting).judgeFrame (len :: rest) := by
  simp only [State.takeByte, hall, List.length_cons]
  rw [if_neg (Nat.not_lt.mpr hlen), if_pos (by omega)]

/-- The last check byte of a frame: with the right check the frame's request arrives, with another the frame
is discarded and counted (R149, R151). -/
theorem State.takeByte_judged {len kind tag b : Byte} {rest : List Byte} (hlen : len.toNat ≤ 240)
    (hrest : rest.length = len.toNat + 1) (s : State) : s.takeByte (len :: kind :: tag :: rest) b =
      if rest.drop len.toNat ++ [b] = byte2Of (crc16 (len :: kind :: tag :: rest.take len.toNat)) then
        (s.setRx .hunting).arrive { kind := kind, tag := tag, payload := rest.take len.toNat }
      else s.abandonFrame := by
  have hpayload : (rest ++ [b]).take len.toNat = rest.take len.toNat :=
    List.take_append_of_le_length (by omega)
  have hcheck : (rest ++ [b]).drop len.toNat = rest.drop len.toNat ++ [b] :=
    List.drop_append_of_le_length (by omega)
  rw [State.takeByte_last (rest := kind :: tag :: (rest ++ [b])) rfl hlen (by simp [hrest])]
  simp only [State.judgeFrame, hpayload, hcheck]
  rfl

theorem State.takeByte_good {len kind tag b : Byte} {rest : List Byte} (hlen : len.toNat ≤ 240)
    (hrest : rest.length = len.toNat + 1)
    (hcheck : rest.drop len.toNat ++ [b] = byte2Of (crc16 (len :: kind :: tag :: rest.take len.toNat)))
    (s : State) : s.takeByte (len :: kind :: tag :: rest) b =
      (s.setRx .hunting).arrive { kind := kind, tag := tag, payload := rest.take len.toNat } := by
  rw [State.takeByte_judged hlen hrest, if_pos hcheck]

theorem State.takeByte_bad {len kind tag b : Byte} {rest : List Byte} (hlen : len.toNat ≤ 240)
    (hrest : rest.length = len.toNat + 1)
    (hcheck : rest.drop len.toNat ++ [b] ≠ byte2Of (crc16 (len :: kind :: tag :: rest.take len.toNat)))
    (s : State) : s.takeByte (len :: kind :: tag :: rest) b = s.abandonFrame := by
  rw [State.takeByte_judged hlen hrest, if_neg hcheck]

/-- Settles O14: each clause is one case of the receiver's state and of the byte's place in the frame. -/
theorem receiverAssemblesFrames : Obligations.ReceiverAssemblesFrames := by
  intro b s hs discarded
  have taken {bytes : List Byte} {t : PartTime} {u : State} (hrx : s.link.rx = .assembling bytes t)
      (hu : s.takeByte bytes b = u) : exec (.receiveByte b) s = .next u := by
    rw [exec_receiveByte_assembling hs hrx, hu]
  refine ⟨fun hrx hb => live_idle ?_, fun hrx hb => ?_, fun t hrx hlen => ?_, fun t hrx hlen => ?_,
    fun len rest t hrx hlen hmore => ?_, fun len kind tag rest t hrx hlen hlast =>
      ⟨fun hcheck => ?_, fun hcheck => ?_⟩⟩
  · simp only [State.receiveByte, hrx]
    exact if_neg hb
  · rw [hb]
    exact exec_receiveByte_start hs hrx
  · exact taken hrx (State.takeByte_more rfl hlen (by simp) s)
  · exact taken hrx (State.takeByte_reject rfl hlen s)
  · exact taken hrx (State.takeByte_more rfl hlen (by simpa using hmore) s)
  · exact taken hrx (State.takeByte_good hlen hlast hcheck s)
  · exact taken hrx (State.takeByte_bad hlen hlast hcheck s)

/-- Settles O15: a frame judged at its last byte, and the three ways a frame is abandoned. -/
theorem framesAreJudgedOrAbandoned : Obligations.FramesAreJudgedOrAbandoned := by
  intro s hs
  refine ⟨fun b len kind tag rest t hrx hlen hlast => ?_, fun len t hrx hlen => live_eq_next hs ?_,
    fun bytes t hrx => live_eq_next hs ?_, fun bytes t hrx hgap => live_eq_next hs ?_,
    fun hrx => live_idle ?_⟩
  · have hlastNext : lastByteNext (len :: kind :: tag :: rest) = true := by
      simp [lastByteNext, hlast]
    have hcomplete : s.frameComplete b = s.takeByte (len :: kind :: tag :: rest) b := by
      simp only [State.frameComplete, hrx, hlastNext, if_true]
    exact ⟨fun hcheck => live_eq_next hs (hcomplete.trans (State.takeByte_good hlen hlast hcheck s)),
      fun hcheck => live_eq_next hs (hcomplete.trans (State.takeByte_bad hlen hlast hcheck s))⟩
  · simp only [State.frameLengthReject, hrx]
    exact if_pos hlen
  · simp only [State.framingError, hrx]
    rfl
  · simp only [State.interbyteGap, hrx]
    exact if_pos (elapsed_eq_true.mpr hgap)
  · simp only [State.framingError, hrx]

/-! ## The bytes of a whole frame (R148, R149) -/

theorem execAll_append {l : List Instr} {s t : State} (h : execAll l s = .next t) (m : List Instr) :
    execAll (l ++ m) s = execAll m t := by
  induction l generalizing s with
  | nil => cases h; rfl
  | cons c l ih =>
    rw [List.cons_append]
    cases hc : exec c s with
    | next u =>
      rw [execAll_cons_of_next hc] at h ⊢
      exact ih h
    | fault f => simp [execAll, hc] at h
    | refused r => simp [execAll, hc] at h

/-- Bytes that do not complete a frame join the bytes taken, one after another (R148). -/
theorem execAll_receiveByte_gather {len : Byte} {rest : List Byte} (hlen : len.toNat ≤ 240)
    (hmore : rest.length < len.toNat + 4) (l : List Byte) {bytes : List Byte} {s : State}
    (hs : s.inReset = false) (hrx : s.link.rx = .assembling bytes s.partTime)
    (hall : bytes ++ l = len :: rest) :
    execAll (l.map .receiveByte) s = .next (s.setRx (.assembling (len :: rest) s.partTime)) := by
  induction l generalizing bytes s with
  | nil =>
    rw [← hall, List.append_nil, ← hrx]
    rfl
  | cons b l ih =>
    obtain ⟨first, more, hfirst⟩ := List.exists_cons_of_ne_nil (List.append_ne_nil_of_right_ne_nil bytes
      (List.cons_ne_nil b []))
    have hsplit : first :: (more ++ l) = len :: rest := by
      rw [← hall, ← List.cons_append, ← hfirst, List.append_assoc, List.singleton_append]
    obtain ⟨rfl, rfl⟩ := List.cons.inj hsplit
    have hbyte := State.takeByte_more hfirst hlen (by simp at hmore; omega) s
    rw [List.map_cons, execAll_cons_of_next (exec_receiveByte_assembling hs hrx b), hbyte]
    exact ih hs rfl rfl

/-- The last check byte of a frame brings the frame's kind, tag and payload to the request queue (R149,
R151). -/
theorem exec_receiveByte_last {kind tag hi lo : Byte} {payload : List Byte} {now : PartTime} {s : State}
    (hp : payload.length ≤ 240) (hcheck : byte2Of (crc16 (frameBody kind tag payload)) = [hi, lo])
    (hs : s.inReset = false) (hrx : s.link.rx = .assembling (frameBody kind tag payload ++ [hi]) now) :
    exec (.receiveByte lo) s =
      .next ((s.setRx .hunting).arrive { kind := kind, tag := tag, payload := payload }) := by
  have hlen : (BitVec.ofNat 8 payload.length).toNat = payload.length := toNat_ofNat_byte (by omega)
  have hjudged := State.takeByte_good (kind := kind) (tag := tag) (b := lo) (rest := payload ++ [hi])
    (hlen.trans_le hp) (by simp [hlen]) (by simpa [hlen, frameBody] using hcheck.symm) s
  rw [hlen, List.take_left] at hjudged
  exact (exec_receiveByte_assembling hs hrx lo).trans (congrArg _ hjudged)

/-- Settles O16: all bytes but the last are gathered, and the last completes a frame with the right check. -/
theorem frameBytesArriveAsTheRequest : Obligations.FrameBytesArriveAsTheRequest := by
  intro kind tag payload s hp hs hrx
  have hlen : (BitVec.ofNat 8 payload.length).toNat = payload.length := toNat_ofNat_byte (by omega)
  obtain ⟨hi, lo, hcheck⟩ : ∃ hi lo, byte2Of (crc16 (frameBody kind tag payload)) = [hi, lo] := ⟨_, _, rfl⟩
  have hbytes : frameBytes kind tag payload = startByte :: (frameBody kind tag payload ++ [hi]) ++ [lo] := by
    rw [frameBytes, hcheck]
    simp
  have hgathered : execAll ((startByte :: (frameBody kind tag payload ++ [hi])).map .receiveByte) s =
      .next (s.setRx (.assembling (frameBody kind tag payload ++ [hi]) s.partTime)) := by
    rw [List.map_cons, execAll_cons_of_next (exec_receiveByte_start hs hrx)]
    exact execAll_receiveByte_gather (rest := kind :: tag :: (payload ++ [hi])) (hlen.trans_le hp)
      (by simp [hlen]) _ hs rfl rfl
  have hidle : s.setRx .hunting = s := by rw [← hrx]; rfl
  rw [hbytes, List.map_append, execAll_append hgathered]
  have hlast := exec_receiveByte_last hp hcheck
    (s := s.setRx (.assembling (frameBody kind tag payload ++ [hi]) s.partTime)) hs rfl
  refine (execAll_cons_of_next hlast []).trans ?_
  exact congrArg (fun t : State => Host.Outcome.next (t.arrive _)) hidle

/-! ## The transmitter (R154) -/

/-- The free transmitter begins the frame that stands next. -/
theorem State.transmitBegin_free {s : State} (h : s.link.tx = none) : s.transmitBegin =
    match s.link.nextFrame with
    | none => s
    | some f => { s with link := { s.link with
        tx := some { source := f.1, bytes := f.2, start := s.partTime } } } := by
  unfold State.transmitBegin
  rw [h]
  cases s.link.nextFrame <;> rfl

/-- A frame sent whole empties the refusal slot, or takes its reply from the reply queue (R152, R154). -/
theorem State.transmitComplete_due {x : Transmission} {s : State} (hx : s.link.tx = some x)
    (hdue : lineTime s.link.rate x.bytes.length ≤ (s.partTime - x.start).toNat) : s.transmitComplete =
      match x.source with
      | .busy => { s with link := { s.link with tx := none, refusal := none } }
      | .reply =>
        State.serveHead { s with link := { s.link with tx := none, replies := s.link.replies.drop 1 } } := by
  simp only [State.transmitComplete, hx]
  exact if_pos (Transmission.due_eq_true.mpr hdue)

/-- Settles O17: what the free transmitter begins, and what a frame sent whole leaves. -/
theorem transmitterSendsRefusalsFirst : Obligations.TransmitterSendsRefusalsFirst := by
  intro s hs
  refine ⟨fun b hfree hslot => live_eq_next hs ?_, fun r rest hfree hslot hreplies => live_eq_next hs ?_,
    fun hfree hslot hreplies => live_idle ?_, fun x hx => live_idle ?_, fun x hx hdue => ?_⟩
  · rw [State.transmitBegin_free hfree]
    simp only [LinkCtl.nextFrame, hslot]
    rfl
  · rw [State.transmitBegin_free hfree]
    simp only [LinkCtl.nextFrame, hslot, hreplies]
    rfl
  · rw [State.transmitBegin_free hfree]
    simp only [LinkCtl.nextFrame, hslot, hreplies]
  · simp only [State.transmitBegin, hx]
  · have hsent := State.transmitComplete_due hx hdue
    refine ⟨fun hsource => live_eq_next hs ?_,
      fun r rest hsource hreplies hrequests => live_eq_next hs ?_,
      fun r rest q more hsource hreplies hroom hrequests => live_eq_next hs ?_⟩
    · rw [hsent, hsource]
    · rw [hsent, hsource, hreplies]
      exact State.serveHead_nil hrequests
    · rw [hsent, hsource, hreplies]
      exact State.serveHead_cons hrequests hroom

end Sys2Proof.Machine
end

section
/-! The notice queue within its bounds, and ATTN at its level, through every step (R160 to R163). -/

namespace Sys2Proof.Machine

/-! ## What the condition rests on -/

/-- The condition depends on the notice queue and ATTN. -/
theorem NoticesBounded.congr {s t : State} (h : NoticesBounded s)
    (hsame : t.notices = s.notices ∧ t.outputs.attn = s.outputs.attn) : NoticesBounded t := by
  simpa [NoticesBounded, hsame] using h

/-- A queue within its bounds, with ATTN set to its level (R162). -/
theorem noticesBounded_updateAttn {s : State} (hitems : s.notices.items.length ≤ 16)
    (hoverflow : s.notices.overflow ≤ 255)
    (hthreshold : 1 ≤ s.notices.threshold ∧ s.notices.threshold ≤ 16) : NoticesBounded s.updateAttn :=
  ⟨hitems, hoverflow, hthreshold.1, hthreshold.2, rfl⟩

/-- An offered notice is queued only where a place is free, and counted up to 255 where none is (R160). -/
theorem NoticesBounded.offer {s : State} (h : NoticesBounded s) (b : NoticeBody) :
    NoticesBounded (s.offer b) := by
  obtain ⟨hitems, hoverflow, hlow, hhigh, hattn⟩ := h
  unfold State.offer
  split
  · split
    · next hroom =>
      refine noticesBounded_updateAttn ?_ hoverflow ⟨hlow, hhigh⟩
      simpa [Config.noticeCapacity] using hroom
    · exact ⟨hitems, Nat.min_le_left .., hlow, hhigh, hattn⟩
  · exact ⟨hitems, hoverflow, hlow, hhigh, hattn⟩

/-! ## Slots and the commit -/

theorem NoticesBounded.setSlot {s : State} (h : NoticesBounded s) (i : Slot) (r : SlotRecord) :
    NoticesBounded (s.setSlot i r) := h.congr (by simp)

/-- A slot's change of state offers one notice (R23, R24). -/
theorem NoticesBounded.enterState {s : State} (h : NoticesBounded s) (i : Slot) (x : SlotState) (c : Code) :
    NoticesBounded (s.enterState i x c) :=
  NoticesBounded.offer (s := State.followEntry i _) (h.congr (by simp)) _

theorem NoticesBounded.startAllFaulted {s : State} (h : NoticesBounded s) (p : Slot → Bool) :
    NoticesBounded (s.startAllFaulted p) := by
  refine State.eachSlot_keeps (fun i t ht => ?_) h
  split
  · exact ht.enterState ..
  · exact ht

theorem NoticesBounded.commit {s : State} (h : NoticesBounded s) : NoticesBounded s.commit := by
  have hsettled : NoticesBounded (s.eachSlot fun i t => settleCandidate (s.commitTarget i) i t) := by
    refine State.eachSlot_keeps (fun i t ht => ?_) h
    unfold settleCandidate
    split
    · exact ht.enterState ..
    · exact ht
  unfold State.commit
  exact hsettled.congr (by simp)

/-! ## Halts, failures and the episode's phases -/

theorem NoticesBounded.halt {s : State} (h : NoticesBounded s) (c : Code) : NoticesBounded (s.halt c) := by
  unfold State.halt
  split
  · exact NoticesBounded.offer (s := ((s.setHalted c).dropReference).zeroApplied) (h.congr (by simp)) _
  · exact NoticesBounded.offer (s := s.setHalted c) (h.congr (by simp)) _
  · exact h

/-- A failure offers its two notices and starts the bypasses (R89). -/
theorem NoticesBounded.failEpisode {s : State} (h : NoticesBounded s) (k : FailureCause) (c : Code) :
    NoticesBounded (s.failEpisode k c) := by
  cases he : s.episode.current with
  | none => rwa [State.failEpisode_of_none he]
  | some e =>
    have hclosed := NoticesBounded.offer (s := s.stopTimers.abandonRamp) (h.congr (by simp))
      (.episodeClosed e.number (some k))
    rw [State.failEpisode_of_some he]
    exact ((hclosed.congr (by simp)).offer _).startAllFaulted _

theorem NoticesBounded.closeRestored {s : State} (h : NoticesBounded s) (r : Reference) :
    NoticesBounded (s.closeRestored r) := by
  unfold State.closeRestored
  split
  · exact h
  · next e _ =>
    have hclosed := NoticesBounded.offer (s := s.stopTimers) (h.congr (by simp))
      (.episodeClosed e.number none)
    exact (hclosed.congr (by simp)).startAllFaulted _

theorem NoticesBounded.enterPlan {s : State} (h : NoticesBounded s) : NoticesBounded s.enterPlan := by
  have hplan : NoticesBounded (s.setPhase .plan) := h.congr (by simp)
  unfold State.enterPlan
  dsimp only
  split
  · exact hplan.failEpisode ..
  · exact hplan.commit.congr (by simp)

theorem NoticesBounded.checkBypass {s : State} (h : NoticesBounded s) : NoticesBounded s.checkBypass := by
  unfold State.checkBypass
  split
  · exact h
  · split
    · exact h.enterPlan
    · exact h

theorem NoticesBounded.enterBypass {s : State} (h : NoticesBounded s) : NoticesBounded s.enterBypass := by
  unfold State.enterBypass
  exact ((h.congr (by simp)).startAllFaulted _).checkBypass

theorem NoticesBounded.enterIsolate {s : State} (h : NoticesBounded s) : NoticesBounded s.enterIsolate := by
  have hisolate : NoticesBounded (s.setPhase .isolate) := h.congr (by simp)
  unfold State.enterIsolate
  dsimp only
  split
  · exact hisolate.enterBypass
  · exact hisolate.congr (by simp)

theorem NoticesBounded.openEpisode {s : State} (h : NoticesBounded s) (i : Slot) (c : Code) (k : Nat) :
    NoticesBounded (s.openEpisode i c k) :=
  (NoticesBounded.offer (s := s.beginEpisode i c k) (h.congr (by simp)) _).enterIsolate

theorem NoticesBounded.offerToEpisode {s : State} (h : NoticesBounded s) (i : Slot) (c : Code) (k : Nat) :
    NoticesBounded (s.offerToEpisode i c k) := by
  have hlist : NoticesBounded (s.listSlot i c k) := h.congr (by simp)
  have hstart : NoticesBounded ((s.listSlot i c k).startFaulted i) := hlist.enterState ..
  cases he : s.episode.current with
  | none => rwa [State.offerToEpisode_of_none he]
  | some e =>
    by_cases hmax : e.involved.length < s.config.fMax
    · have hcurrent : (s.listSlot i c k).episode.current =
          some { e with involved := e.involved ++ [newEntry i c k] } := by rw [State.listSlot_of_some he]
      rw [State.offerToEpisode_listed he hmax]
      dsimp only
      split
      · exact hlist
      · split
        · exact hstart
        · split
          · rw [State.reisolate_eq hcurrent]
            exact NoticesBounded.enterIsolate (hlist.congr ⟨rfl, rfl⟩)
          · exact hstart.congr (by simp)
    · rw [State.offerToEpisode_full he (Nat.not_lt.mp hmax)]
      exact h.failEpisode ..

/-! ## Fault intake -/

theorem NoticesBounded.rideAction {s : State} (h : NoticesBounded s) (i : Slot) (p : PendingFault) :
    NoticesBounded (s.rideAction i p) := by
  have hfaulted : NoticesBounded (s.enterState i .faulted p.code) := h.enterState ..
  unfold State.rideAction
  dsimp only
  split
  · exact hfaulted
  · exact hfaulted.enterState ..
  · exact hfaulted.enterState ..
  · exact hfaulted.openEpisode ..
  · exact hfaulted.offerToEpisode ..

theorem NoticesBounded.haltAction {s : State} (h : NoticesBounded s) (c : Code) :
    NoticesBounded (s.haltAction c) := by
  unfold State.haltAction
  split
  · exact h.failEpisode ..
  · exact h.halt _
  · exact h.halt _
  · exact h

theorem NoticesBounded.setFacts {s : State} (h : NoticesBounded s) (src : FaultSource) (f : FaultFacts) :
    NoticesBounded (s.setFacts src f) := h.congr (by simp)

theorem NoticesBounded.act {s : State} (h : NoticesBounded s) (src : FaultSource) (p : PendingFault) :
    NoticesBounded (s.act src p) := by
  unfold State.act
  split
  · exact h
  · unfold State.noteAction
    dsimp only
    split
    · exact h.setFacts ..
    · exact (h.setFacts ..).offer _
  · exact h.rideAction ..
  · exact h.haltAction _
  · exact h.haltAction _

theorem NoticesBounded.present {s : State} (h : NoticesBounded s) (src : FaultSource) (x : Presentation) :
    NoticesBounded (s.present src x) := by
  obtain ⟨f, hfacts | ⟨p, hact⟩⟩ := s.present_cases src x
  · rw [hfacts]; exact h.setFacts ..
  · rw [hact]; exact (h.setFacts ..).act ..

theorem NoticesBounded.extLineSample {s : State} (h : NoticesBounded s) (l : ExtLine) (mv : Nat) :
    NoticesBounded (s.extLineSample l mv) := by
  unfold State.extLineSample
  split
  · exact h
  · exact NoticesBounded.present (h.congr (by simp)) ..

/-! ## Contactors -/

theorem NoticesBounded.stick {s : State} (h : NoticesBounded s) (i : Slot) (c : Code) :
    NoticesBounded (s.stick i c) := by
  have hstuck := h.enterState i .stuck c
  unfold State.stick State.presentBypassCode
  split
  · split
    · exact hstuck
    · exact hstuck.halt _
  · exact hstuck.failEpisode ..
  · exact hstuck

theorem NoticesBounded.completeBypass {s : State} (h : NoticesBounded s) (i : Slot) (n : Nat) :
    NoticesBounded (s.completeBypass i n) := by
  have hentered (r : SlotRecord) : NoticesBounded ((s.setSlot i r).enterState i .bypassed 0) :=
    (h.setSlot i r).enterState ..
  unfold State.completeBypass
  dsimp only
  split
  · exact (hentered _).checkBypass
  · exact hentered _

theorem NoticesBounded.feedbackEffect {s : State} (h : NoticesBounded s) (i : Slot) (before : Contactor) :
    NoticesBounded (s.feedbackEffect i before) := by
  have anomaly (b : Bool) (c : Code) : NoticesBounded (if b = true then s.stick i c else s) := by
    split
    · exact h.stick i c
    · exact h
  unfold State.feedbackEffect
  dsimp only
  cases (s.slot i).state with
  | absent | stuck => exact h
  | active | parked | faulted | bypassed => exact anomaly _ _
  | bypassing =>
    dsimp only
    split
    · exact h
    · split
      · exact h.completeBypass i _
      · exact h.setSlot ..
  | returning =>
    dsimp only
    split
    · exact h
    · split
      · exact (h.setSlot ..).enterState ..
      · exact h.setSlot ..

theorem NoticesBounded.feedbackSample {s : State} (h : NoticesBounded s) (i : Slot) (high : Bool) :
    NoticesBounded (s.feedbackSample i high) := by
  have hreach : NoticesBounded (s.reach (s.slot i).contactor.sampledAt 100) := h.congr (by simp)
  exact (hreach.setSlot i _).feedbackEffect i _

theorem NoticesBounded.pulseTimeout {s : State} (h : NoticesBounded s) (x : SlotState) (i : Slot) :
    NoticesBounded (s.pulseTimeout x i) := by
  unfold State.pulseTimeout
  split
  · exact h
  · split
    · exact h.stick i _
    · exact h

/-! ## Cell links -/

theorem NoticesBounded.presentCell {s : State} (h : NoticesBounded s) (i : Slot) (x : Presentation) :
    NoticesBounded (s.presentCell i x) := by
  unfold State.presentCell
  split
  · exact h.present ..
  · exact h

theorem NoticesBounded.takeReport {s : State} (h : NoticesBounded s) (i : Slot) (r : CellReport) :
    NoticesBounded (s.takeReport i r) := by
  have recharge {t : State} (ht : NoticesBounded t) : NoticesBounded t.rechargeCheck := ht.congr (by simp)
  exact recharge ((h.setSlot ..).presentCell ..)

theorem NoticesBounded.receiveChar {s : State} (h : NoticesBounded s) (i : Slot) (b : Byte) :
    NoticesBounded (s.receiveChar i b) := by
  unfold State.receiveChar State.judgeGroup
  dsimp only
  split
  · split
    · exact h.setSlot ..
    · split
      · exact h.setSlot ..
      · exact h.takeReport ..
  · exact h

theorem NoticesBounded.answerMissing {s : State} (h : NoticesBounded s) (i : Slot) :
    NoticesBounded (s.answerMissing i) := by
  unfold State.answerMissing
  dsimp only
  split
  · exact (h.setSlot ..).presentCell ..
  · exact h

/-! ## The speed unit -/

theorem NoticesBounded.guardHalt {s : State} (h : NoticesBounded s) (r : SpeedResult) :
    NoticesBounded (s.guardHalt r) := by
  unfold State.guardHalt
  split
  · exact h.halt _
  · split
    · exact h
    · exact h.halt _

theorem NoticesBounded.guardRide {s : State} (h : NoticesBounded s) (e : EpisodeRecord) (r : SpeedResult) :
    NoticesBounded (s.guardRide e r) := by
  unfold State.guardRide
  split
  · exact h.failEpisode ..
  · split
    · exact h.failEpisode ..
    · split
      · exact h.failEpisode ..
      · split
        · exact h.congr (by simp)
        · exact h

theorem NoticesBounded.judgeSpeed {s : State} (h : NoticesBounded s) (before r : SpeedResult) :
    NoticesBounded (s.judgeSpeed before r) := by
  unfold State.judgeSpeed
  split
  · exact h
  · exact h.guardHalt r
  · exact h.guardHalt r
  · unfold State.guardNote
    split
    · exact h.offer _
    · exact h
  · split
    · exact h
    · exact h.guardRide _ r

theorem NoticesBounded.gateCompletion {s : State} (h : NoticesBounded s) :
    NoticesBounded s.gateCompletion := by
  unfold State.gateCompletion
  split
  · exact h
  · split
    · exact NoticesBounded.judgeSpeed (h.congr (by simp)) ..
    · exact h

/-! ## The timers -/

theorem NoticesBounded.rampCompletion {s : State} (h : NoticesBounded s) :
    NoticesBounded s.rampCompletion := by
  have handover {t : State} (ht : NoticesBounded t) : NoticesBounded (t.setPhase .handover) :=
    ht.congr (by simp)
  unfold State.rampCompletion
  split
  · exact h
  · split
    · split
      · exact h
      · exact handover ((h.congr (by simp)).offer _)
    · exact h

theorem NoticesBounded.settleExpiry {s : State} (h : NoticesBounded s) : NoticesBounded s.settleExpiry := by
  have hstopped : NoticesBounded { s with episode := { s.episode with settle := none } } := h.congr (by simp)
  unfold State.settleExpiry
  split
  · exact h
  · split
    · dsimp only
      split
      · exact hstopped.enterBypass
      · exact hstopped
    · exact h

theorem NoticesBounded.windowExpiry {s : State} (h : NoticesBounded s) : NoticesBounded s.windowExpiry := by
  unfold State.windowExpiry
  split
  · exact h
  · split
    · exact NoticesBounded.failEpisode (h.congr (by simp)) ..
    · exact h

theorem NoticesBounded.handoverExpiry {s : State} (h : NoticesBounded s) :
    NoticesBounded s.handoverExpiry := by
  unfold State.handoverExpiry
  split
  · exact h
  · split
    · exact NoticesBounded.failEpisode (h.congr (by simp)) ..
    · exact h

theorem NoticesBounded.supervisionExpiry {s : State} (h : NoticesBounded s) :
    NoticesBounded s.supervisionExpiry := by
  have hstopped : NoticesBounded { s with drive := { s.drive with supervision := none } } := h.congr (by simp)
  unfold State.supervisionExpiry
  split
  · exact h
  · split
    · dsimp only
      split
      · exact hstopped.halt _
      · exact hstopped
    · exact h

/-! ## The requests -/

theorem NoticesBounded.acceptConfig {s : State} (h : NoticesBounded s) (q : Items) :
    NoticesBounded (s.acceptConfig q) := by
  unfold State.acceptConfig
  dsimp only
  split
  · refine NoticesBounded.offer ?_ _
    exact h.congr (by simp)
  · exact h.congr (by simp)

theorem NoticesBounded.acceptStart {s : State} (h : NoticesBounded s) : NoticesBounded s.acceptStart :=
  (h.commit.congr (by simp)).offer _

theorem NoticesBounded.acceptStop {s : State} (h : NoticesBounded s) : NoticesBounded s.acceptStop := by
  unfold State.acceptStop
  split
  · exact (h.congr (by simp)).offer _
  · exact h.failEpisode ..
  · exact h

theorem NoticesBounded.acceptReference {s : State} (h : NoticesBounded s) (r : Reference) :
    NoticesBounded (s.acceptReference r) := by
  unfold State.acceptReference
  split
  · exact h.closeRestored r
  · exact h.congr (by simp)

/-- An accepted NOTICE_MASK leaves a threshold from 1 to 16 (R163). -/
theorem NoticesBounded.noticeMask {s : State} (h : NoticesBounded s) {q : Items}
    (hr : refuseNoticeMask q = none) :
    NoticesBounded (State.updateAttn { s with notices := s.notices.setBy q }) := by
  obtain ⟨hitems, hoverflow, hlow, hhigh, -⟩ := h
  have hfield : fieldOk q 3 (between 1 16) = true :=
    firstRefusal_eq_none.mp hr _ (.tail _ (.tail _ (.head _)))
  exact noticesBounded_updateAttn hitems hoverflow
    (field_getD (P := fun v => 1 ≤ v ∧ v ≤ 16) ⟨hlow, hhigh⟩ fun v hv =>
      between_eq_true.mp (by simpa [fieldOk, hv] using hfield))

/-- TAKE_NOTICES shortens the queue and clears its overflow count (R164). -/
theorem NoticesBounded.takeNotices {s : State} (h : NoticesBounded s) (n : Nat) :
    NoticesBounded (State.updateAttn { s with notices := { s.notices with
      items := s.notices.items.drop n, overflow := 0 } }) := by
  obtain ⟨hitems, -, hlow, hhigh, -⟩ := h
  exact noticesBounded_updateAttn ((List.drop_sublist ..).length_le.trans hitems) (Nat.zero_le _)
    ⟨hlow, hhigh⟩

theorem NoticesBounded.serveKind {s : State} (h : NoticesBounded s) (k : RequestKind) (q : Items) :
    NoticesBounded (serveKind k q s).1 := by
  cases k
  case configure => exact serveWith_keeps h (h.acceptConfig q)
  case start => exact serveWith_keeps h h.acceptStart
  case stop => exact serveWith_keeps h h.acceptStop
  case clearHalt => exact serveWith_keeps h ((h.congr (by simp)).offer _)
  case reference => exact serveWith_keeps h (h.acceptReference _)
  case readConfig | readCells | planList | readEpisode | readStatus => exact serveWith_keeps h h
  case planPut | planDrop | planClear => exact serveWith_keeps h (h.congr (by simp))
  case takeNotices => exact serveWith_keeps h (h.takeNotices _)
  case noticeMask => exact serveWith_keeps_accepted h h.noticeMask
  case linkReset =>
    exact serveWith_keeps h (noticesBounded_updateAttn (Nat.zero_le _) (Nat.zero_le _)
      ⟨le_rfl, Nat.le_add_left 1 15⟩)
  case bypassCell | returnCell =>
    simp only [Machine.serveKind, serveBypassCell, serveReturnCell]
    split
    · exact serveWith_keeps h h
    · exact serveWith_keeps h (h.enterState ..)
  case routeSet | routeRead | extSet | readCell =>
    simp only [Machine.serveKind, serveRouteSet, serveRouteRead, serveExtSet, serveReadCell]
    split <;> exact serveWith_keeps h (h.congr (by simp))

/-! ## Every step -/

/-- A notice queue within its bounds stays so: notices join it by an offer alone (R160). -/
theorem NoticesBounded.step {s t : State} (h : NoticesBounded s) (hstep : step s = .next t) :
    NoticesBounded t := by
  obtain ⟨-, hreset, -⟩ := resetStateIsSound
  refine step_keeps (P := NoticesBounded) (fun s x h => h.congr (by simp)) (fun s l h => h.congr (by simp))
    (fun c s t hs hexec => ?_) h hstep
  exact exec_keeps (P := NoticesBounded) (fun s l h => h.congr (by simp)) (fun s b h => h.congr (by simp))
    (fun s => hreset.congr ⟨rfl, rfl⟩) (fun k q s h => h.serveKind k q)
    (fun s h => h.congr (by simp)) (fun s h => h.rampCompletion) (fun i b s h => h.receiveChar i b)
    (fun i s h => h.answerMissing i) (fun l mv s h => h.extLineSample l mv)
    (fun i b s h => h.feedbackSample i b) (fun x i s _ h => h.pulseTimeout x i)
    (fun s h => h.gateCompletion) (fun s h => h.settleExpiry) (fun s h => h.windowExpiry)
    (fun s h => h.handoverExpiry) (fun s h => h.supervisionExpiry)
    (fun a b s h => h.congr (by simp)) hs hexec

end Sys2Proof.Machine
end

section
/-! The queues of the control link within their bounds, through every step (R149 to R152). -/

namespace Sys2Proof.Machine

/-! ## What the condition rests on -/

/-- The condition depends on the two queues and the count of discarded frames. -/
theorem LinkBounded.of_queues {s t : State} (h : LinkBounded s)
    (hqueues : t.link.requests = s.link.requests ∧ t.link.replies = s.link.replies)
    (hdiscarded : t.link.discarded ≤ 255) : LinkBounded t := by
  obtain ⟨hrequests, hreplies, hwait, -⟩ := h
  obtain ⟨hsameRequests, hsameReplies⟩ := hqueues
  unfold LinkBounded
  rw [hsameRequests, hsameReplies]
  exact ⟨hrequests, hreplies, hwait, hdiscarded⟩

theorem LinkBounded.discarded_le {s : State} (h : LinkBounded s) : s.link.discarded ≤ 255 := by
  obtain ⟨-, -, -, hdiscarded⟩ := h
  exact hdiscarded

/-- The condition where the control link stands. -/
theorem LinkBounded.of_link {s t : State} (h : LinkBounded s) (hlink : t.link = s.link) : LinkBounded t :=
  h.of_queues (by simp [hlink]) (by rw [hlink]; exact h.discarded_le)

/-- A discarded frame is counted up to 255 (R149, R150). -/
theorem LinkBounded.countDiscard {s : State} (h : LinkBounded s) : LinkBounded s.countDiscard :=
  h.of_queues ⟨rfl, rfl⟩ (Nat.min_le_left ..)

theorem LinkBounded.setRx {s : State} (h : LinkBounded s) (x : Receiver) : LinkBounded (s.setRx x) :=
  h.of_queues ⟨rfl, rfl⟩ h.discarded_le

theorem LinkBounded.abandonFrame {s : State} (h : LinkBounded s) : LinkBounded s.abandonFrame :=
  (h.setRx .hunting).countDiscard

/-! ## Serving and queueing -/

/-- The service of a request leaves the control link, or empties its request queue and its counts (R157). -/
theorem serveRequest_link (r : Request) (s : State) : (serveRequest r s).1.link = s.link ∨
    (serveRequest r s).1.link = s.linkReset.link := by
  refine serveRequest_keeps (P := fun t => t.link = s.link ∨ t.link = s.linkReset.link) (.inl rfl)
    (fun k q => ?_) r
  by_cases hk : k = .linkReset
  · subst hk
    exact .inr rfl
  · exact .inl (serveKind_link hk q s)

/-- Serving the head keeps the queues bounded, also right after a reply has left a full reply queue with
requests waiting (R152). -/
theorem linkBounded_serveHead {s : State} (hrequests : s.link.requests.length ≤ 4)
    (hreplies : s.link.replies.length ≤ 2)
    (hwait : 2 ≤ s.link.requests.length → 1 ≤ s.link.replies.length)
    (hdiscarded : s.link.discarded ≤ 255) : LinkBounded s.serveHead := by
  cases hq : s.link.requests with
  | nil =>
    rw [State.serveHead_nil hq]
    exact ⟨hrequests, hreplies, fun hne => absurd hq hne, hdiscarded⟩
  | cons r rest =>
    by_cases hroom : s.link.replies.length < 2
    · rw [hq, List.length_cons] at hrequests hwait
      have hlater : rest ≠ [] → s.link.replies.length + 1 = 2 := fun hne => by
        have hpos := List.length_pos_of_ne_nil hne
        omega
      rw [State.serveHead_cons hq hroom]
      unfold LinkBounded State.answered
      rw [State.pushReply_link]
      rcases serveRequest_link r (s.setRequests rest) with hlink | hlink
      · rw [hlink]
        exact ⟨by simp; omega, by simp; omega, by simpa using hlater, hdiscarded⟩
      · rw [hlink]
        exact ⟨Nat.zero_le _, by simp [State.linkReset]; omega, fun hne => absurd rfl hne, Nat.zero_le _⟩
    · rw [State.serveHead_full (Nat.not_lt.mp hroom)]
      exact ⟨hrequests, hreplies, fun _ => by omega, hdiscarded⟩

/-- A request that waits finds the reply queue full (R152). -/
theorem LinkBounded.serveHead {s : State} (h : LinkBounded s) : LinkBounded s.serveHead := by
  obtain ⟨hrequests, hreplies, hwait, hdiscarded⟩ := h
  refine linkBounded_serveHead hrequests hreplies (fun hlen => ?_) hdiscarded
  have hfull := hwait (List.ne_nil_of_length_pos (by omega))
  omega

/-- A request joins the queue only while it holds fewer than four (R151). -/
theorem LinkBounded.arrive {s : State} (h : LinkBounded s) (r : Request) : LinkBounded (s.arrive r) := by
  unfold State.arrive State.offerRequest
  split
  · next hroom =>
    obtain ⟨-, hreplies, hwait, hdiscarded⟩ := h
    refine linkBounded_serveHead (by simpa [Config.requestCapacity] using hroom) hreplies (fun hlen => ?_)
      hdiscarded
    have hfull := hwait (List.ne_nil_of_length_pos (by simp at hlen; omega))
    exact hfull.symm ▸ Nat.le_succ 1
  · split
    · exact LinkBounded.serveHead (h.of_queues ⟨rfl, rfl⟩ h.discarded_le)
    · exact h.countDiscard.serveHead

/-! ## The receiver and the transmitter -/

theorem LinkBounded.judgeFrame {s : State} (h : LinkBounded s) (bytes : List Byte) :
    LinkBounded (s.judgeFrame bytes) := by
  unfold State.judgeFrame
  split
  · dsimp only
    split
    · exact h.arrive _
    · exact h.countDiscard
  · exact h.countDiscard

theorem LinkBounded.takeByte {s : State} (h : LinkBounded s) (bytes : List Byte) (b : Byte) :
    LinkBounded (s.takeByte bytes b) := by
  unfold State.takeByte
  dsimp only
  split
  · exact h
  · split
    · exact h.abandonFrame
    · split
      · exact (h.setRx .hunting).judgeFrame _
      · exact h.setRx _

theorem LinkBounded.receiveByte {s : State} (h : LinkBounded s) (b : Byte) :
    LinkBounded (s.receiveByte b) := by
  unfold State.receiveByte
  split
  · split
    · exact h.setRx _
    · exact h
  · exact h.takeByte _ b

theorem LinkBounded.frameComplete {s : State} (h : LinkBounded s) (b : Byte) :
    LinkBounded (s.frameComplete b) := by
  unfold State.frameComplete
  split
  · exact h
  · split
    · exact h.takeByte _ b
    · exact h

theorem LinkBounded.frameLengthReject {s : State} (h : LinkBounded s) (len : Byte) :
    LinkBounded (s.frameLengthReject len) := by
  unfold State.frameLengthReject
  split
  · split
    · exact h.abandonFrame
    · exact h
  · exact h

theorem LinkBounded.framingError {s : State} (h : LinkBounded s) : LinkBounded s.framingError := by
  unfold State.framingError
  split
  · exact h
  · exact h.abandonFrame

theorem LinkBounded.interbyteGap {s : State} (h : LinkBounded s) : LinkBounded s.interbyteGap := by
  unfold State.interbyteGap
  split
  · exact h
  · split
    · exact h.abandonFrame
    · exact h

theorem LinkBounded.transmitBegin {s : State} (h : LinkBounded s) : LinkBounded s.transmitBegin := by
  unfold State.transmitBegin
  split
  · exact h.of_queues ⟨rfl, rfl⟩ h.discarded_le
  · exact h

/-- A reply sent while requests wait leaves one reply behind, and the head's reply takes its place (R152). -/
theorem LinkBounded.transmitComplete {s : State} (h : LinkBounded s) : LinkBounded s.transmitComplete := by
  unfold State.transmitComplete
  split
  · exact h
  · split
    · split
      · exact h.of_queues ⟨rfl, rfl⟩ h.discarded_le
      · obtain ⟨hrequests, hreplies, hwait, hdiscarded⟩ := h
        refine linkBounded_serveHead hrequests (by simp; omega) (fun hlen => ?_) hdiscarded
        have hfull := hwait (List.ne_nil_of_length_pos (by simp at hlen; omega))
        simp [hfull]
    · exact h

/-! ## Every step -/

/-- Every command keeps the link's queues bounded: what is not the link's own leaves the link. -/
theorem LinkBounded.exec {c : Instr} {s t : State} (h : LinkBounded s) (hexec : exec c s = .next t) :
    LinkBounded t := by
  have request (k tag : Byte) (p : List Byte) : LinkBounded (s.request k tag p) :=
    request_keeps k tag p h.countDiscard (h.arrive _)
  cases c
  case deviceReset mv rn =>
    obtain ⟨hreset, -⟩ := resetStateIsSound
    cases hexec
    split
    · exact hreset.of_queues ⟨rfl, rfl⟩ (Nat.zero_le _)
    · exact h
  case resetEnd mv rn a b =>
    cases hexec
    split
    · exact h.of_queues ⟨rfl, rfl⟩ h.discarded_le
    · exact h
  case unknownKindRequest | configure | readConfig | start | stop | clearHalt | reference | bypassCell |
      returnCell | readCell | readCells | routeSet | routeRead | extSet | planPut | planDrop | planClear |
      planList | readEpisode | takeNotices | noticeMask | readStatus | linkReset =>
    exact live_keeps hexec h (request _ _ _)
  case framingError => exact live_keeps hexec h h.framingError
  case frameLengthReject len => exact live_keeps hexec h (h.frameLengthReject len)
  case interbyteGapTimeout => exact live_keeps hexec h h.interbyteGap
  case frameComplete b => exact live_keeps hexec h (h.frameComplete b)
  case receiveByte b => exact live_keeps hexec h (h.receiveByte b)
  case transmitBegin => exact live_keeps hexec h h.transmitBegin
  case transmitComplete => exact live_keeps hexec h h.transmitComplete
  case beat | rampCompletion | statusFrameGood | statusFrameBad | answerMissing | extLineSample |
      feedbackSample | bypassTimeout | returnOperationTimeout | gateCompletion | settleExpiry |
      windowExpiry | handoverExpiry | supervisionExpiry | encoderSample =>
    exact live_keeps hexec h (h.of_link (by simp))

/-- Settles O7: the link's commands keep the link's queues, and every block's operations keep the notice
queue. -/
theorem queuesStayBounded : Obligations.QueuesStayBounded := by
  intro s t hlink hnotices hstep
  refine ⟨?_, hnotices.step hstep⟩
  exact step_keeps (P := LinkBounded) (fun s x h => h.of_link rfl) (fun s l h => h.of_link rfl)
    (fun c s t h hexec => h.exec hexec) hlink hstep

end Sys2Proof.Machine
end

section
/-! The notice queue: an offered notice, TAKE_NOTICES and NOTICE_MASK (R159 to R164). -/

namespace Sys2Proof.Machine

/-! ## ATTN and an offered notice -/

/-- The urgent notices (R159). -/
theorem NoticeBody.urgent_eq_true {b : NoticeBody} : b.urgent = true ↔
    (∃ number i c f, b = .episodeOpened number i c f) ∨ (∃ number failure, b = .episodeClosed number failure) ∨
      ∃ c, b = .driveState .halted c := by
  cases b <;> simp [NoticeBody.urgent]

/-- ATTN is called for at the threshold, or by an urgent notice (R162). -/
theorem NoticeQueue.attn_eq_true {q : NoticeQueue} :
    q.attn = true ↔ q.threshold ≤ q.items.length ∨ ∃ n ∈ q.items, n.body.urgent = true := by
  simp [NoticeQueue.attn]

theorem State.offer_disabled {b : NoticeBody} {s : State} (hb : s.notices.enabled b = false) :
    s.offer b = s := by
  simp [State.offer, hb]

theorem State.offer_queued {b : NoticeBody} {s : State} (hb : s.notices.enabled b = true)
    (hroom : s.notices.items.length < 16) : s.offer b = State.updateAttn { s with
      notices := { s.notices with items := s.notices.items ++ [{ time := s.partTime, body := b }] } } := by
  rw [State.offer, if_pos hb, if_pos hroom]

theorem State.offer_full {b : NoticeBody} {s : State} (hb : s.notices.enabled b = true)
    (hfull : 16 ≤ s.notices.items.length) :
    s.offer b = { s with notices := { s.notices with overflow := bump 255 s.notices.overflow } } := by
  rw [State.offer, if_pos hb, if_neg (Nat.not_lt.mpr hfull)]

/-- Settles O24: each clause is one outcome of an offer. -/
theorem offeredNoticeIsQueuedOrCounted : Obligations.OfferedNoticeIsQueuedOrCounted := by
  refine ⟨fun b => NoticeBody.urgent_eq_true, fun b s => ⟨State.offer_disabled, fun hb hroom => ?_,
    State.offer_full⟩⟩
  refine ⟨_, State.offer_queued hb hroom, ?_⟩
  simp only [NoticeQueue.attn_eq_true, List.length_append, List.length_singleton, List.mem_append,
    List.mem_singleton, or_and_right, exists_or, exists_eq_left]
  rw [or_comm (a := b.urgent = true)]

/-! ## TAKE_NOTICES -/

/-- The check of a field that is there. -/
theorem fieldOk_of_some {q : Items} {id v : Nat} (h : field q id = some v) (p : Nat → Bool) :
    fieldOk q id p = p v := by
  simp [fieldOk, h]

theorem between_eq_false {lo hi v : Nat} : between lo hi v = false ↔ v < lo ∨ hi < v := by
  rw [← Bool.not_eq_true, between_eq_true]
  omega

theorem serveTakeNotices_refused {q : Items} (s : State) (hmax : fieldOk q 1 (between 1 8) = false) :
    serveKind .takeNotices q s = (s, .refused (.range 1)) := by
  simp [serveKind, serveTakeNotices, hmax, serveWith]

/-- What an accepted TAKE_NOTICES answers and leaves (R164). -/
theorem serveTakeNotices_accepted {q : Items} (s : State) (hmax : fieldOk q 1 (between 1 8) = true) :
    serveKind .takeNotices q s =
      (State.updateAttn { s with notices := { s.notices with
          items := s.notices.items.drop ((field q 1).getD 8), overflow := 0 } },
       .ok (BitVec.ofNat 8 (min ((field q 1).getD 8) s.notices.items.length) ::
          BitVec.ofNat 8 s.notices.overflow ::
          BitVec.ofNat 8 (s.notices.items.length - (field q 1).getD 8) ::
          (s.notices.items.take ((field q 1).getD 8)).flatMap noticeBytes)) := by
  simp [serveKind, serveTakeNotices, hmax, serveWith, State.taken, byte1]

/-- Settles O25: the one check is on max, and ATTN follows the notices that are left. -/
theorem takeNoticesGivesTheOldest : Obligations.TakeNoticesGivesTheOldest := by
  intro tag p q s h hp
  refine ⟨fun n hn hlow hhigh => ?_, fun n hn hout => ?_⟩
  · have hmax : fieldOk q 1 (between 1 8) = true := fieldOk_eq_true.mpr fun v hv => by
      have hv : n = v := by simpa [hv] using hn
      exact between_eq_true.mpr (hv ▸ ⟨hlow, hhigh⟩)
    subst hn
    refine ⟨_, request_accepted (k := .takeNotices) h hp (serveTakeNotices_accepted s hmax), ?_⟩
    rw [NoticeQueue.attn_eq_true, List.length_drop]
  · have hmax : fieldOk q 1 (between 1 8) = false := by
      rw [fieldOk_of_some hn, between_eq_false]
      omega
    exact request_refused (k := .takeNotices) h hp (serveTakeNotices_refused s hmax)

/-! ## NOTICE_MASK -/

/-- NOTICE_MASK's checks in order (R163). -/
theorem refuseNoticeMask_eq (q : Items) : refuseNoticeMask q =
    if fieldOk q 1 (fun v => decide (v < 64)) then
      if fieldOk q 2 (fun v => decide (v < 64)) then
        if fieldOk q 3 (between 1 16) then none else some (.range 3)
      else some (.range 2)
    else some (.range 1) := by
  simp only [refuseNoticeMask, firstRefusal_cons, firstRefusal_nil]

theorem serveNoticeMask_refused {q : Items} {c : RefusalCause} (s : State)
    (hc : refuseNoticeMask q = some c) : serveKind .noticeMask q s = (s, .refused c) := by
  simp only [serveKind, serveNoticeMask, hc, serveWith]

/-- What an accepted NOTICE_MASK answers and leaves (R163). -/
theorem serveNoticeMask_accepted {q : Items} (s : State) (hc : refuseNoticeMask q = none) :
    serveKind .noticeMask q s = (State.updateAttn { s with notices := s.notices.setBy q },
      .ok [BitVec.ofNat 8 (s.notices.setBy q).mask.toNat,
        BitVec.ofNat 8 ((field q 3).getD s.notices.threshold)]) := by
  simp only [serveKind, serveNoticeMask, hc, serveWith]
  rfl

/-- A kind is enabled after a NOTICE_MASK that enables its set list, then disables its clear list (R163). -/
theorem NoticeQueue.setBy_mask_getLsbD (q : Items) (n : NoticeQueue) {k : Nat} (hk : k < 6) :
    (n.setBy q).mask.getLsbD k = true ↔ (fieldD q 2).testBit k = false ∧
      (n.mask.getLsbD k = true ∨ (fieldD q 1).testBit k = true) := by
  have listed (id : Nat) : (maskField q id).getLsbD k = (fieldD q id).testBit k := by
    rw [maskField, BitVec.getLsbD_ofNat, decide_eq_true hk, Bool.true_and]
  simp only [NoticeQueue.setBy, BitVec.getLsbD_and, BitVec.getLsbD_or, BitVec.getLsbD_not, listed, hk,
    decide_true, Bool.true_and, Bool.and_eq_true, Bool.or_eq_true, Bool.not_eq_true']
  exact and_comm

/-- Settles O26: each refusal is one outcome of the chain of checks, and the mask is read bit by bit. -/
theorem noticeMaskSetsThenClears : Obligations.NoticeMaskSetsThenClears := by
  intro tag p q s h hp
  have refused {c : RefusalCause} (hc : refuseNoticeMask q = some c) :
      exec (.noticeMask tag p) s = .next (s.answered 0x14 tag (.refused c)) :=
    request_refused (k := .noticeMask) h hp (serveNoticeMask_refused s hc)
  have goodList {id : Nat} (hv : ∀ v, field q id = some v → v < 64) :
      fieldOk q id (fun v => decide (v < 64)) = true :=
    fieldOk_eq_true.mpr fun v hid => decide_eq_true (hv v hid)
  have badList {id v : Nat} (hid : field q id = some v) (hv : 64 ≤ v) :
      fieldOk q id (fun v => decide (v < 64)) = false := by
    rw [fieldOk_of_some hid]
    exact decide_eq_false (Nat.not_lt.mpr hv)
  have hcheck := refuseNoticeMask_eq q
  refine ⟨fun hset hclear hthreshold => ?_, fun v hv hbad => refused ?_,
    fun v hset hv hbad => refused ?_, fun v hset hclear hv hbad => refused ?_⟩
  · have hpass : fieldOk q 3 (between 1 16) = true :=
      fieldOk_eq_true.mpr fun v hv => between_eq_true.mpr (hthreshold v hv)
    have hc : refuseNoticeMask q = none := by
      rw [hcheck, if_pos (goodList hset), if_pos (goodList hclear), if_pos hpass]
    exact ⟨(s.notices.setBy q).mask, (s.notices.setBy q).attn,
      request_accepted (k := .noticeMask) h hp (serveNoticeMask_accepted s hc),
      fun k hk => s.notices.setBy_mask_getLsbD q hk, NoticeQueue.attn_eq_true⟩
  · simp [hcheck, badList hv hbad]
  · simp [hcheck, goodList hset, badList hv hbad]
  · have hout : fieldOk q 3 (between 1 16) = false := by
      rw [fieldOk_of_some hv, between_eq_false]
      omega
    simp [hcheck, goodList hset, goodList hclear, hout]

end Sys2Proof.Machine
end

section
/-! A refused CONFIGURE (R170, R171). -/

namespace Sys2Proof.Machine

/-! ## Chains of checks -/

/-- A chain in two parts refuses by its second part where the first passes. -/
theorem firstRefusal_append (l m : List (Bool × RefusalCause)) :
    firstRefusal (l ++ m) = (firstRefusal l).or (firstRefusal m) := by
  simp [firstRefusal, List.find?_append, Option.map_or]

theorem firstRefusal_cons_of_pass {c : Bool × RefusalCause} (h : c.1 = true)
    (l : List (Bool × RefusalCause)) : firstRefusal (c :: l) = firstRefusal l := by
  simp [firstRefusal, h]

theorem firstRefusal_cons_of_fail {c : Bool × RefusalCause} (h : c.1 = false)
    (l : List (Bool × RefusalCause)) : firstRefusal (c :: l) = some c.2 := by
  simp [firstRefusal, h]

/-! ## The cross-check of a pair -/

section

variable {q : Items} {x y : Nat}

theorem pairCheck_of_first (hx : field q x ≠ none) (holds : Bool) :
    pairCheck q x y holds = (holds, .range x) := by
  obtain ⟨v, hv⟩ := Option.ne_none_iff_exists'.mp hx
  simp [pairCheck, pairField, hv]

theorem pairCheck_of_second (hx : field q x = none) (hy : field q y ≠ none) (holds : Bool) :
    pairCheck q x y holds = (holds, .range y) := by
  obtain ⟨v, hv⟩ := Option.ne_none_iff_exists'.mp hy
  simp [pairCheck, pairField, hx, hv]

/-- A pair that fails is refused with the first of its fields that the request carries (R171). -/
theorem firstRefusal_pairCheck_fails (l : List (Bool × RefusalCause)) :
    (field q x ≠ none → firstRefusal (pairCheck q x y false :: l) = some (.range x)) ∧
    (field q x = none → field q y ≠ none →
      firstRefusal (pairCheck q x y false :: l) = some (.range y)) := by
  refine ⟨fun hx => ?_, fun hx hy => ?_⟩
  · rw [pairCheck_of_first hx, firstRefusal_cons_of_fail rfl]
  · rw [pairCheck_of_second hx hy, firstRefusal_cons_of_fail rfl]

end

/-- The cross-checks of a CONFIGURE in their order, on the values that it leaves in force (R171). -/
def configPairs (q : Items) (c : Config) : List (Bool × RefusalCause) :=
  [pairCheck q 4 5 (decide (c.vTrip + 20 ≤ c.vRelease)), pairCheck q 19 20 (decide (c.fLimit < c.fOver))]

/-! ## The range checks -/

theorem configIds_eq_range' : configIds = List.range' 1 21 := rfl

/-- The range checks of a CONFIGURE in field order, with the N that it leaves in force (R170). -/
def configRanges (q : Items) (n : Nat) : List (Bool × RefusalCause) :=
  configIds.map fun id => (fieldOk q id (paramOk n id), .range id)

/-- The first field out of its range is refused RANGE. -/
theorem firstRefusal_configRanges_range {q : Items} {n id v : Nat} (hid : id ∈ configIds)
    (hv : field q id = some v) (hbad : paramOk n id v = false)
    (hlow : ∀ j u, j < id → field q j = some u → paramOk n j u = true) :
    firstRefusal (configRanges q n) = some (.range id) := by
  have hfind : configIds.find? (fun j => !fieldOk q j (paramOk n j)) = some id := by
    rw [configIds_eq_range'] at hid ⊢
    refine List.find?_range'_eq_some.mpr ⟨by simp [fieldOk_of_some hv, hbad], hid, fun j _ hj => ?_⟩
    simpa using fieldOk_eq_true.mpr fun u hu => hlow j u hj hu
  rw [configRanges, firstRefusal, List.find?_map]
  simpa using hfind

theorem firstRefusal_configRanges_none {q : Items} {n : Nat}
    (hrange : ∀ id v, field q id = some v → paramOk n id v = true) :
    firstRefusal (configRanges q n) = none := by
  simp only [configRanges, firstRefusal_eq_none, List.forall_mem_map, fieldOk_eq_true]
  exact fun id _ v hv => hrange id v hv

/-- The fields of a CONFIGURE have the ids of the configuration's parameters (R177). -/
theorem mem_configIds_of_field {p : List Byte} {q : Items} {id v : Nat} (hp : carries .configure p q)
    (hv : field q id = some v) : id ∈ configIds := by
  have hsize := fieldSize_of_field hp hv
  rw [configIds_eq_range', List.mem_range'_1]
  by_contra hout
  have : ¬(1 ≤ id ∧ id ≤ 21) := by omega
  simp [fieldSize, this] at hsize

/-! ## CONFIGURE's checks in order -/

section

variable {q : Items} {s : State}

/-- The drive state allows the request: it brings N in UNCONFIGURED, and no other N in STOPPED and HALTED
(R170). -/
def MayConfigure (q : Items) (s : State) : Prop :=
  (s.drive.state = .unconfigured ∧ field q 1 ≠ none) ∨
    ((s.drive.state = .stopped ∨ s.drive.state = .halted) ∧ ∀ n, field q 1 = some n → s.config.n = some n)

theorem refuseConfigure_state (hd : s.drive.state = .running ∨ s.drive.state = .riding) :
    refuseConfigure q s = some .state := by
  rcases hd with hd | hd <;> simp [refuseConfigure, hd]

theorem refuseConfigure_missing (hd : s.drive.state = .unconfigured) (hn : field q 1 = none) :
    refuseConfigure q s = some (.missing 1) := by
  simp [refuseConfigure, hd, hn]

theorem refuseConfigure_otherN {n : Nat} (hd : s.drive.state = .stopped ∨ s.drive.state = .halted)
    (hn : field q 1 = some n) (hother : s.config.n ≠ some n) : refuseConfigure q s = some .state := by
  rcases hd with hd | hd <;> simp [refuseConfigure, hd, fieldOk_of_some hn, hother]

/-- Where the drive state allows the request, the ranges are checked and then the two pairs. -/
theorem refuseConfigure_of_mayConfigure (h : MayConfigure q s) :
    refuseConfigure q s = (firstRefusal (configRanges q ((configAfter q s.config).n.getD 0))).or
      (firstRefusal (configPairs q (configAfter q s.config))) := by
  rw [← firstRefusal_append]
  rcases h with ⟨hd, hn⟩ | ⟨hd, hn⟩
  · have hn : (field q 1).isSome = true := Option.isSome_iff_ne_none.mpr hn
    simp [refuseConfigure, configRanges, configPairs, hd, hn]
  · have hsame : fieldOk q 1 (fun v => decide (s.config.n = some v)) = true :=
      fieldOk_eq_true.mpr fun v hv => decide_eq_true (hn v hv)
    rcases hd with hd | hd <;> simp [refuseConfigure, configRanges, configPairs, hd, hsame]

/-- Where every field is in its range too, the two pairs are left to check. -/
theorem refuseConfigure_of_inRange (h : MayConfigure q s)
    (hrange : ∀ id v, field q id = some v → paramOk ((configAfter q s.config).n.getD 0) id v = true) :
    refuseConfigure q s = firstRefusal (configPairs q (configAfter q s.config)) := by
  rw [refuseConfigure_of_mayConfigure h, firstRefusal_configRanges_none hrange, Option.none_or]

theorem serveConfigure_refused {r : RefusalCause} (h : refuseConfigure q s = some r) :
    serveKind .configure q s = (s, .refused r) := by
  simp only [serveKind, serveConfigure, h, serveWith]

end

/-- Settles O28: each clause is one outcome of the chain of checks. -/
theorem configureIsRefusedInOrder : Obligations.ConfigureIsRefusedInOrder := by
  intro tag p q s h hp c refused mayWrite inRange
  have refuses {r : RefusalCause} (hr : refuseConfigure q s = some r) : refused r :=
    request_refused (k := .configure) h hp (serveConfigure_refused hr)
  refine ⟨fun hd => refuses (refuseConfigure_state hd),
    fun hd hn => refuses (refuseConfigure_missing hd hn),
    fun n hd hn hother => refuses (refuseConfigure_otherN hd hn hother),
    fun id v hmay hv hbad hlow => refuses ?_, fun hmay hrange hfail => ?_,
    fun hmay hrange hpass hfail => ?_⟩
  · rw [refuseConfigure_of_mayConfigure hmay,
      firstRefusal_configRanges_range (mem_configIds_of_field hp hv) hv hbad hlow, Option.some_or]
  · have hcheck := refuseConfigure_of_inRange hmay hrange
    rw [configPairs, decide_eq_false (Nat.not_le.mpr hfail)] at hcheck
    obtain ⟨hfirst, hsecond⟩ := firstRefusal_pairCheck_fails (q := q) (x := 4) (y := 5) [_]
    exact ⟨fun h4 => refuses (hcheck.trans (hfirst h4)),
      fun h4 h5 => refuses (hcheck.trans (hsecond h4 h5))⟩
  · have hcheck := refuseConfigure_of_inRange hmay hrange
    rw [configPairs, firstRefusal_cons_of_pass (pairCheck_eq_true.mpr fun hv => decide_eq_true (hpass hv)),
      decide_eq_false (Nat.not_lt.mpr hfail)] at hcheck
    obtain ⟨hfirst, hsecond⟩ := firstRefusal_pairCheck_fails (q := q) (x := 19) (y := 20) []
    exact ⟨fun h19 => refuses (hcheck.trans (hfirst h19)),
      fun h19 h20 => refuses (hcheck.trans (hsecond h19 h20))⟩

end Sys2Proof.Machine
end

section
/-! The items of a request payload read back (R176, R177). -/

namespace Sys2Proof.Machine

/-- A field of a request takes one byte or two, and its id fits a byte (12, "Request fields"). -/
theorem fieldSize_range {k : RequestKind} {id n : Nat} (h : fieldSize k id = some n) :
    (n = 1 ∨ n = 2) ∧ id < 256 := by
  cases k <;> grind [fieldSize]

/-- An item that fits its kind is its id, then bytes of the field's size that have the item's value. -/
theorem itemBytes_of_fits {k : RequestKind} {x : Nat × Nat} {n : Nat} (hsize : fieldSize k x.1 = some n)
    (hfits : x.2 < 256 ^ n) : ∃ value : List Byte,
      itemBytes k x = BitVec.ofNat 8 x.1 :: value ∧ value.length = n ∧ valueOf value = x.2 := by
  obtain ⟨rfl | rfl, -⟩ := fieldSize_range hsize
  · refine ⟨byte1 x.2, ?_, rfl, ?_⟩
    · simp [itemBytes, hsize, byte1]
    · simpa [byte1, valueOf] using hfits
  · refine ⟨byte2 x.2, ?_, rfl, valueOf_byte2 hfits⟩
    simp [itemBytes, hsize, byte1]

/-- No item has the id of a field that is not there. -/
theorem field_eq_none_of_notMem {q : Items} {id : Nat} (h : id ∉ q.map (·.1)) : field q id = none := by
  rw [Option.eq_none_iff_forall_ne_some]
  exact fun v hv => h (List.mem_map_of_mem (f := (·.1)) (field_mem hv))

theorem itemsFit_cons {k : RequestKind} {x : Nat × Nat} {q : Items} : itemsFit k (x :: q) ↔
    (x.1 ∉ q.map (·.1) ∧ ∃ n, fieldSize k x.1 = some n ∧ x.2 < 256 ^ n) ∧ itemsFit k q := by
  simp only [itemsFit, List.map_cons, List.nodup_cons, List.forall_mem_cons]
  tauto

/-- An item in front of a payload that parses is parsed, if its id is new. -/
theorem parseItems_itemBytes_append {k : RequestKind} {x : Nat × Nat} {q : Items} {n m : Nat}
    {rest : List Byte} (hsize : fieldSize k x.1 = some n) (hfits : x.2 < 256 ^ n)
    (hnew : x.1 ∉ q.map (·.1)) (hrest : parseItems k m rest = some q) :
    parseItems k (m + 1) (itemBytes k x ++ rest) = some (x :: q) := by
  obtain ⟨value, hbytes, rfl, hvalue⟩ := itemBytes_of_fits hsize hfits
  have hid : (BitVec.ofNat 8 x.1).toNat = x.1 := Nat.mod_eq_of_lt (fieldSize_range hsize).2
  rw [hbytes, List.cons_append, parseItems]
  simp [hid, hsize, hrest, hvalue, field_eq_none_of_notMem hnew]

/-- A bound of at least the number of items suffices to parse their payload. -/
theorem parseItems_payloadOf {k : RequestKind} {q : Items} (h : itemsFit k q) {n : Nat}
    (hn : q.length ≤ n) : parseItems k n (payloadOf k q) = some q := by
  induction q generalizing n with
  | nil => cases n <;> rfl
  | cons x q ih =>
    obtain ⟨⟨hnew, size, hsize, hfits⟩, hq⟩ := itemsFit_cons.mp h
    obtain ⟨m, rfl⟩ : ∃ m, n = m + 1 := ⟨n - 1, by simp at hn; omega⟩
    exact parseItems_itemBytes_append hsize hfits hnew (ih hq (Nat.le_of_succ_le_succ hn))

/-- Every item takes a byte at least. -/
theorem length_le_payloadOf_length (k : RequestKind) (q : Items) : q.length ≤ (payloadOf k q).length := by
  have hitem (x : Nat × Nat) : 1 ≤ (itemBytes k x).length := by simp [itemBytes, byte1]
  induction q with
  | nil => exact Nat.le_refl 0
  | cons x q ih =>
    have := hitem x
    simp only [payloadOf, List.flatMap_cons, List.length_append, List.length_cons] at ih ⊢
    omega

/-- Settles O20, by induction on the items. -/
theorem payloadItemsRoundTrip : Obligations.PayloadItemsRoundTrip :=
  fun k q h => parseItems_payloadOf h (length_le_payloadOf_length k q)

end Sys2Proof.Machine
end

section
/-! The fixed reply layouts, the notices and the command frame (R176 to R178). -/

namespace Sys2Proof.Machine

/-! ## Sizes -/

section
variable (n : Nat) (i : Int) (w : BitVec 16) (t : PartTime) (k : PlanKey) (src : PlanSource)

@[simp] theorem byte1_length : (byte1 n).length = 1 := rfl
@[simp] theorem byte2Of_length : (byte2Of w).length = 2 := rfl
@[simp] theorem byte2_length : (byte2 n).length = 2 := rfl
@[simp] theorem byte2s_length : (byte2s i).length = 2 := rfl
@[simp] theorem byte3s_length : (byte3s i).length = 3 := rfl
@[simp] theorem byte4_length : (byte4 t).length = 4 := rfl
@[simp] theorem keyBytes_length : (keyBytes k).length = 3 := rfl
@[simp] theorem sourceBytes_length : (sourceBytes src).length = 4 := by cases src <;> rfl

end

/-- An optional value takes its bytes whether it is there or not. -/
theorem orZeros_length {α : Type} {n : Nat} {f : α → List Byte} (h : ∀ x, (f x).length = n)
    (o : Option α) : (orZeros n o f).length = n := by
  cases o with
  | none => exact List.length_replicate
  | some x => exact h x

/-- A list of records of one size takes that size times their number. -/
theorem flatMap_length_of_forall {α : Type} {n : Nat} {f : α → List Byte} (h : ∀ x, (f x).length = n)
    (l : List α) : (l.flatMap f).length = n * l.length := by
  simp [List.length_flatMap, h, Nat.mul_comm]

@[simp] theorem pendingBytes_length (p : Option PendingFault) : (pendingBytes p).length = 11 :=
  orZeros_length (fun _ => by simp) p

@[simp] theorem qualifiedBytes_length (q : Option QualifiedFault) : (qualifiedBytes q).length = 7 :=
  orZeros_length (fun _ => by simp) q

theorem cellBytes_length (i : Slot) (r : SlotRecord) : (cellBytes i r).length = 44 := by
  cases h : r.contactor.pulse <;>
    simp [cellBytes, orZeros_length byte2_length, orZeros_length byte2Of_length, h]

theorem lineBytes_length (l : ExtLine) (r : LineRecord) : (lineBytes l r).length = 25 := by
  simp [lineBytes, orZeros_length byte2Of_length]

theorem startBytes_length (s : State) : (startBytes s).length = 11 := by
  simp [startBytes, orZeros_length]

theorem statusBytes_length (s : State) : (statusBytes s).length = 43 := by
  simp [statusBytes, speedBytes, orZeros_length, orZeros_length byte2Of_length]

/-- Each parameter takes three bytes; N takes none while it is absent. -/
theorem configBytes_length (s : State) :
    (configBytes s).length = if s.config.n = none then 62 else 65 := by
  cases h : s.config.n <;> simp [configBytes, configIds, configValue, item, h]

theorem noticeBytes_length_le (n : Notice) : (noticeBytes n).length ≤ 16 := by
  cases h : n.body <;> simp [noticeBytes, noticeBodyBytes, h]

/-- The fixed part and the involved cells, then the three groups that may be absent. -/
theorem episodeBytes_length (e : EpisodeRecord) : (episodeBytes e).length =
    12 + 7 * e.involved.length +
    (match e.plan with | none => 0 | some p => 14 + p.parked.length) +
    (if e.capture.isSome then 7 else 0) + (if e.outcome.isSome then 8 else 0) := by
  simp only [episodeBytes, List.length_append]
  refine congrArg₂ (· + ·) (congrArg₂ (· + ·) (congrArg₂ (· + ·) ?fixed ?plan) ?capture) ?outcome
  case fixed => simp [flatMap_length_of_forall (n := 7)]
  case plan =>
    cases e.plan with
    | none => rfl
    | some p => simp; omega
  case capture => cases e.capture <;> simp
  case outcome => rcases e.outcome with _ | _ | _ <;> simp

/-! ## The CRC-8 -/

/-- The bits of a byte are shifted through one by one. -/
theorem crc8Bits_eq_foldl (n : Nat) (c : Byte) :
    crc8Bits n c = (List.range n).foldl (fun c _ => crc8Bit c) c := by
  induction n generalizing c with
  | zero => rfl
  | succ n ih => simp [crc8Bits, ih, List.range_succ_eq_map, List.foldl_map]

/-- One more byte is added to the check, then its eight bits. -/
theorem crc8_append_singleton (bytes : List Byte) (b : Byte) :
    crc8 (bytes ++ [b]) = (List.range 8).foldl (fun c _ => crc8Bit c) (crc8 bytes ^^^ b) := by
  simp only [crc8, List.foldl_append, List.foldl_cons, List.foldl_nil, crc8Bits_eq_foldl]

/-! ## The layouts -/

/-- Settles O23: the sizes are lemmas of their own, and each encoder is the one chapter 12 names. -/
theorem replyLayoutsHaveTheirSizes : Obligations.ReplyLayoutsHaveTheirSizes := by
  unfold Obligations.ReplyLayoutsHaveTheirSizes
  intro u8 u16 u32 i16 bit slot opt16 code16 pending qualified key source
  have hu8 : byte1 = u8 := funext byte1_eq
  have hu16 : byte2 = u16 := funext byte2_eq
  have hu32 : byte4 = u32 := funext byte4_eq
  have hi16 : byte2s = i16 := funext byte2s_eq
  have hcode : byte2Of = fun c => u16 c.toNat := funext byte2Of_eq
  have hslot (i : Slot) : u8 (slotByte i) = slot i := rfl
  have hkey : keyBytes = key := by
    funext k
    simp only [keyBytes, hu8, key]
  have hsource : sourceBytes = source := by
    funext x
    cases x <;> simp only [sourceBytes, hu8] <;> rfl
  have hopt16 (o : Option Nat) : orZeros 2 o u16 = opt16 o := by cases o <;> rfl
  have hcode16 (o : Option Code) : orZeros 2 o byte2Of = code16 o := by
    cases o
    · rfl
    · exact byte2Of_eq _
  have hpending : pendingBytes = pending := by
    funext o
    cases o <;> simp only [pendingBytes, hu8, hu32, hcode] <;> rfl
  have hqualified : qualifiedBytes = qualified := by
    funext o
    cases o <;> simp only [qualifiedBytes, hu8, hu32, hcode] <;> rfl
  refine ⟨fun s => ⟨statusBytes_length s, startBytes_length s, configBytes_length s⟩, cellBytes_length,
    fun _ => rfl, lineBytes_length, fun _ => rfl, noticeBytes_length_le, fun _ => rfl,
    episodeBytes_length, by decide,
    ⟨rfl, fun id => ⟨congrArg (5 :: ·) (byte1_eq id), congrArg (6 :: ·) (byte1_eq id)⟩, fun _ => rfl⟩,
    ?notice, ?command, ⟨rfl, crc8_append_singleton⟩, ?cell, ?window, ?line, ?entry, ?config, ?start,
    ?status, ?episode⟩
  case notice =>
    intro n
    simp only [noticeBytes, hu8, hu32]
    cases n.body with
    | cellState | driveState =>
      simp only [noticeKind, noticeBodyBytes, hu8, hcode, hslot, ← List.append_assoc]
      rfl
    | episodeOpened | restartReady =>
      simp only [noticeKind, noticeBodyBytes, hu8, hu16, hi16, hcode, hslot, ← List.append_assoc]
      rfl
    | faultNoted src code route =>
      simp only [noticeKind, noticeBodyBytes, hu8, hcode, ← List.append_assoc]
      cases src <;> cases route <;> rfl
    | episodeClosed number failure =>
      simp only [noticeKind, noticeBodyBytes, hu8, hu16, ← List.append_assoc]
      cases failure with
      | none => exact List.append_assoc _ [1] [0]
      | some cause => simp only [Option.isSome_some, if_true]; rfl
  case command =>
    intro f
    simp only [commandBytes, commandBody, hu8, hu16]
    rfl
  case cell =>
    intro i r
    simp only [cellBytes, hu8, hu16, hu32, hslot, hpending, hqualified, hopt16, hcode16]
    cases r.contactor.pulse with
    | none => rfl
    | some p => rcases p with ⟨_ | _⟩ <;> rfl
  case window =>
    intro w
    simp only [windowBytes, hu8, hcode]
    rfl
  case line =>
    intro l r
    simp only [lineBytes, hu8, hpending, hqualified, hcode16]
    rfl
  case entry =>
    intro e
    simp only [entryBytes, hu16, hkey]
  case config =>
    intro s
    simp only [configBytes, item, hu8, hu16]
    rw [show configIds = 1 :: configIds.tail from rfl, List.flatMap_cons, ← List.append_assoc]
    refine congrArg₂ (· ++ ·) (congrArg₂ (· ++ ·) rfl ?first) ?others
    case first => simp only [configValue]; cases s.config.n <;> rfl
    case others => rfl
  case start =>
    intro s
    simp only [startBytes, hu8, hu16, hkey, hsource]
    cases s.committed <;> rfl
  case status =>
    intro s
    simp only [statusBytes, speedBytes, hu8, hu16, hu32, hi16, byte3s_eq, hkey, hsource, hcode16,
      ← List.append_assoc]
    cases s.episode.current <;> cases s.committed <;> cases s.drive.reference <;> rfl
  case episode =>
    intro e
    simp only [episodeBytes, hu8, hu16, hu32, hi16, hslot, hcode, hkey, hsource]
    refine congrArg₂ (· ++ ·) (congrArg₂ (· ++ ·) (congrArg₂ (· ++ ·)
      (congrArg₂ (· ++ ·) rfl ?involved) ?plan) ?capture) ?outcome
    case involved =>
      refine congrArg (List.flatMap · _) (funext fun v => ?_)
      cases v.closeTime <;> rfl
    case plan => cases e.plan <;> rfl
    case capture => cases e.capture <;> rfl
    case outcome => rcases e.outcome with _ | _ | _ <;> rfl

end Sys2Proof.Machine
end

section
/-! A step with a command waiting. -/

namespace Sys2Proof.Machine

/-- Settles O1: with a command at the front, `step`'s match on the queue takes its second branch. -/
theorem stepRunsTheFrontCommand : Obligations.StepRunsTheFrontCommand := by
  intro c rest s hfront
  simp only [step, hfront]

end Sys2Proof.Machine
end
